-- ==== Sys2Proof/Word.lean ====
section
/-! DEFINITION. The word and byte types (00_scope R6, R8). -/

namespace Sys2Proof

/-- A 32-bit unsigned word; bit 0 is the least significant (R8). -/
abbrev Word := BitVec 32

/-- One byte of a byte string (R8). -/
abbrev Byte := BitVec 8

end Sys2Proof
end

