-- ==== Sys2Proof/Syntax.lean ====
section
/-! DEFINITION. The instructions: one constructor for each row of spec/opcode_table.json, the five commands a host
writes to CMD (30_encoding R82) and the nine micro-steps of the sequencer (R87). -/

namespace Sys2Proof

/-- A command (`nop` to `qr`) or a sequencer micro-step (`qrCol0` to `finalize`).
`klen` and `nlen` are the KLEN and NLEN fields of the command word (R81); `r` is the double-round that a quarter-round
micro-step belongs to, spc = 8r + q (R87; log entry 14). -/
inductive Instr where
  | nop
  | init (klen nlen : BitVec 8)
  | initCtr (klen nlen : BitVec 8)
  | nextBlock
  | qr
  | qrCol0 (r : BitVec 4)
  | qrCol1 (r : BitVec 4)
  | qrCol2 (r : BitVec 4)
  | qrCol3 (r : BitVec 4)
  | qrDiag0 (r : BitVec 4)
  | qrDiag1 (r : BitVec 4)
  | qrDiag2 (r : BitVec 4)
  | qrDiag3 (r : BitVec 4)
  | finalize
  deriving DecidableEq, Repr

end Sys2Proof
end

