-- ==== Sys2Proof/WellFormed.lean ====
section
/-! DEFINITION. Which terms of Instr stand for an encoding. -/

namespace Sys2Proof

/-- The double-round of a quarter-round micro-step is 0..9 (30_encoding R87: "for r = 0..9"). Every KLEN and NLEN is
encodable (R81). -/
def Instr.wellFormed : Instr → Bool
  | .nop => true
  | .init _ _ => true
  | .initCtr _ _ => true
  | .nextBlock => true
  | .qr => true
  | .qrCol0 r => decide (r < 10#4)
  | .qrCol1 r => decide (r < 10#4)
  | .qrCol2 r => decide (r < 10#4)
  | .qrCol3 r => decide (r < 10#4)
  | .qrDiag0 r => decide (r < 10#4)
  | .qrDiag1 r => decide (r < 10#4)
  | .qrDiag2 r => decide (r < 10#4)
  | .qrDiag3 r => decide (r < 10#4)
  | .finalize => true

end Sys2Proof
end

