-- ==== Sys2Proof/Decode.lean ====
section
/-! DEFINITION. Decoding a command word and a sequencer step number, and the encoder (30_encoding). -/

namespace Sys2Proof

/-- The two kinds of code the CORE decodes: a 32-bit word written to CMD (R80) and a value of the 7-bit step counter
(R87). -/
inductive Code where
  | cmd (word : Word)
  | seq (spc : BitVec 7)
  deriving DecidableEq, Repr

/-- Why a command word is no command (R83, R84). -/
inductive CmdReject where
  | illegalOpcode
  | reservedBits
  deriving DecidableEq, Repr

/-- Why a code is no instruction: a rejected command word, or a step number in 81..127 (R24: never reached). -/
inductive DecodeError where
  | command (why : CmdReject)
  | noSuchStep
  deriving DecidableEq, Repr

/-- OP, bits 3:0 (R80). -/
def fieldOp (v : Word) : BitVec 4 := v.extractLsb' 0 4

/-- RSV_A, bits 7:4 (R80). -/
def fieldRsvA (v : Word) : BitVec 4 := v.extractLsb' 4 4

/-- KLEN, bits 15:8 (R80). -/
def fieldKlen (v : Word) : BitVec 8 := v.extractLsb' 8 8

/-- NLEN, bits 23:16 (R80). -/
def fieldNlen (v : Word) : BitVec 8 := v.extractLsb' 16 8

/-- RSV_B, bits 31:24 (R80). -/
def fieldRsvB (v : Word) : BitVec 8 := v.extractLsb' 24 8

/-- Bits 31:4, all of them required-zero bits of NOP, NEXT_BLOCK and QR (R82). -/
def fieldAboveOp (v : Word) : BitVec 28 := v.extractLsb' 4 28

/-- The required-zero bits of a legal opcode are zero (R82, and the second and third reserved-bit lines of R100). -/
def reservedClear (v : Word) : Bool :=
  if fieldOp v = 0x1#4 ∨ fieldOp v = 0x2#4 then fieldRsvB v == 0#8 && fieldRsvA v == 0#4
  else fieldAboveOp v == 0#28

/-- The command a legal opcode selects (R82); for opcodes 0x4 and above it is QR, and `decodeCmd` calls it below 0x5
only. -/
def selectCommand (v : Word) : Instr :=
  if fieldOp v = 0x0#4 then .nop
  else if fieldOp v = 0x1#4 then .init (fieldKlen v) (fieldNlen v)
  else if fieldOp v = 0x2#4 then .initCtr (fieldKlen v) (fieldNlen v)
  else if fieldOp v = 0x3#4 then .nextBlock
  else .qr

/-- Decoding of a command word: the opcode first, then its required-zero bits (R82, R83, R84, R100). -/
def decodeCmd (v : Word) : Except CmdReject Instr :=
  if 0x5#4 ≤ fieldOp v then .error .illegalOpcode
  else if reservedClear v then .ok (selectCommand v)
  else .error .reservedBits

/-- The quarter-round micro-step of slot `q` in double-round `r` (R87). -/
def slotInstr (q : BitVec 3) (r : BitVec 4) : Instr :=
  match q with
  | 0#3 => .qrCol0 r
  | 1#3 => .qrCol1 r
  | 2#3 => .qrCol2 r
  | 3#3 => .qrCol3 r
  | 4#3 => .qrDiag0 r
  | 5#3 => .qrDiag1 r
  | 6#3 => .qrDiag2 r
  | _ => .qrDiag3 r

/-- Decoding of the step counter (R87, R165): 80 is FINALIZE, 0..79 the slot spc[2:0] of double-round spc[6:3], and
81..127 nothing (R24; log entry 5). -/
def decodeSeq (spc : BitVec 7) : Except DecodeError Instr :=
  if spc = 80#7 then .ok .finalize
  else if spc < 80#7 then .ok (slotInstr (spc.extractLsb' 0 3) (spc.extractLsb' 3 4))
  else .error .noSuchStep

/-- The decoder, total on every code. -/
def decode : Code → Except DecodeError Instr
  | .cmd v => (decodeCmd v).mapError .command
  | .seq spc => decodeSeq spc

/-- The word of INIT or INIT_CTR: RSV_B, NLEN, KLEN, RSV_A, OP from the top (R80). -/
def lengthsWord (op : BitVec 4) (klen nlen : BitVec 8) : Word :=
  0#8 ++ nlen ++ klen ++ 0#4 ++ op

/-- The encoder, from the tables of R82 and R87. -/
def encode : Instr → Code
  | .nop => .cmd 0x00000000#32
  | .init klen nlen => .cmd (lengthsWord 0x1#4 klen nlen)
  | .initCtr klen nlen => .cmd (lengthsWord 0x2#4 klen nlen)
  | .nextBlock => .cmd 0x00000003#32
  | .qr => .cmd 0x00000004#32
  | .qrCol0 r => .seq (r ++ 0#3)
  | .qrCol1 r => .seq (r ++ 1#3)
  | .qrCol2 r => .seq (r ++ 2#3)
  | .qrCol3 r => .seq (r ++ 3#3)
  | .qrDiag0 r => .seq (r ++ 4#3)
  | .qrDiag1 r => .seq (r ++ 5#3)
  | .qrDiag2 r => .seq (r ++ 6#3)
  | .qrDiag3 r => .seq (r ++ 7#3)
  | .finalize => .seq 80#7

/-- The code that an opcode-table word stands for: a row of at most one byte is a value of the 7-bit step counter, a
wider row a 32-bit command word (log entry 13). -/
def tableCode (nbits w : Nat) : Option Code :=
  if nbits ≤ 8 then if w < 128 then some (.seq (BitVec.ofNat 7 w)) else none
  else if w < 2 ^ 32 then some (.cmd (BitVec.ofNat 32 w)) else none

/-- The instruction the decoder reads from an instruction whose bits are `w`, numbered as spec/opcode_table.json
numbers them. -/
def decodeTableWord (nbits w : Nat) : Option Instr :=
  match tableCode nbits w with
  | some c => (decode c).toOption
  | none => none

end Sys2Proof
end

