-- ==== Sys2Proof/Machine/State.lean ====
section
/-! DEFINITION. The CORE's architectural state (10_state), what stands in the model for the host and for the order of
the agents' steps (00_scope R12), and the reset state (R40, R230). -/

namespace Sys2Proof.Machine

/-- The codes ERR can hold (60_exceptions R200); 7..15 are never written (R30, log entry 6). -/
inductive ErrCode where
  | ok
  | invalidKeyLength
  | invalidNonceLength
  | busy
  | illegalOpcode
  | reservedBits
  | notInitialized
  deriving DecidableEq, Repr

/-- What the host does at one of its turns (60_exceptions R220, 30_encoding R88). A register is named by the word index
off[7:2] the bus carries (20_memory R50), so no misaligned or narrow access can be formed (R54, log entry 9). -/
inductive HostAction where
  /-- `rd`: MemRead(4·index, 4). -/
  | read (index : BitVec 6)
  /-- `wr`: MemWrite(4·index, 4, value). -/
  | write (index : BitVec 6) (value : Word)
  /-- `poll`: one read, repeated at later turns until (result & mask) = value. -/
  | poll (index : BitVec 6) (mask value : Word)
  /-- Assert and release reset. -/
  | reset
  deriving DecidableEq, Repr

/-- The two agents (R12). -/
inductive Agent where
  | host
  | sequencer
  deriving DecidableEq, Repr

/-- The machine's state. The fields from `S` to `qout` are the CORE's registers; `hostProgram`, `schedule` and
`replies` are the model's own (log entries 1 and 3): what the host does next, whose turn comes next, and what the reads
have returned. -/
structure State where
  /-- S[0..15], the state matrix (R20). -/
  S : Vector Word 16
  /-- W[0..15], the working array (R23). -/
  W : Vector Word 16
  /-- The sequencer step counter, the CORE's program counter (R24). -/
  spc : BitVec 7
  /-- OUT[0..15], the output buffer (R25). -/
  out : Vector Word 16
  /-- BUSY (R26). -/
  busy : Bool
  /-- STATE_VALID (R27). -/
  stateValid : Bool
  /-- OUT_VALID (R28). -/
  outValid : Bool
  /-- CTR_WRAP, sticky (R29). -/
  ctrWrap : Bool
  /-- ERR (R30). -/
  err : ErrCode
  /-- KEY[0..7], write-only staging (R31). -/
  key : Vector Word 8
  /-- NONCE[0..1], staging (R32). -/
  nonce : Vector Word 2
  /-- CTR_IN_LO, staging (R33). -/
  ctrInLo : Word
  /-- CTR_IN_HI, staging (R33). -/
  ctrInHi : Word
  /-- QIN[0..3], operands of the QR command (R34). -/
  qin : Vector Word 4
  /-- QOUT[0..3], results of the QR command (R34). -/
  qout : Vector Word 4
  /-- What the host does at its next turns, first action first (R62: in the order the host issues them). -/
  hostProgram : List HostAction
  /-- Whose turns come next (R12: any order). -/
  schedule : List Agent
  /-- The values bus reads and polls have returned to the host, newest first (R52). -/
  replies : List Word
  deriving DecidableEq, Repr

/-- Why the machine stops. -/
inductive Fault where
  /-- Raised by the meaning of a micro-step executed while BUSY = 0 or while spc names another step: the sequencer has
  no such step then (43_block_function R165, opcode table "guard"). SAFE: the machine's own step never executes one
  (it decodes spc, and only while BUSY = 1). Log entry 4. -/
  | stepNotSelected
  /-- Raised by the sequencer's turn when BUSY = 1 and spc is 81..127, which R24 says never happens. SAFE: the machine
  stops where the spec gives no step, in states no run reaches. Log entry 5. -/
  | spcOutOfRange
  deriving DecidableEq, Repr

/-- Why an instruction is refused. -/
inductive Refusal where
  /-- Raised by an arm of exec without a meaning; no arm of this model raises it. SAFE: the machine stops. -/
  | notModelled (mnemonic : String)
  deriving DecidableEq, Repr

/-- The machine right after reset: every register zero (R40, R230), the host with nothing to do and no turn fixed
(log entries 1, 3 and 12). -/
def State.reset : State where
  S := Vector.replicate 16 0
  W := Vector.replicate 16 0
  spc := 0
  out := Vector.replicate 16 0
  busy := false
  stateValid := false
  outValid := false
  ctrWrap := false
  err := .ok
  key := Vector.replicate 8 0
  nonce := Vector.replicate 2 0
  ctrInLo := 0
  ctrInHi := 0
  qin := Vector.replicate 4 0
  qout := Vector.replicate 4 0
  hostProgram := []
  schedule := []
  replies := []

end Sys2Proof.Machine
end

