-- ==== Sys2Proof/Machine/Ops.lean ====
section
/-! DEFINITION. The shared operations: rotation and byte order (00_scope R9, R10), the write of ERR, the rejection and
the acceptance of a command (60_exceptions R203, 40_command_dispatch R100), and the guard of a micro-step. -/

namespace Sys2Proof.Machine

/-- What one step of the machine answers. -/
abbrev Result := Host.Outcome State Fault Refusal

/-- rotl32(x, n) for 0 < n < 32 (R9). -/
def rotl32 (x : Word) (n : Nat) : Word := (x <<< n) ||| (x >>> (32 - n))

/-- rotr32(x, n) = rotl32(x, 32 - n) (R9). -/
def rotr32 (x : Word) (n : Nat) : Word := rotl32 x (32 - n)

/-- Byte `j` of a word, bits 8j+7:8j (R10, R51). -/
def byteOf (w : Word) (j : Nat) : Byte := w.extractLsb' (8 * j) 8

/-- bytes_le(w): the least-significant byte first (R10). -/
def bytesLe (w : Word) : Vector Byte 4 := #v[byteOf w 0, byteOf w 1, byteOf w 2, byteOf w 3]

/-- The word of four consecutive bytes, the first one least significant: le32 (R10). -/
def le32 (b0 b1 b2 b3 : Byte) : Word := b3 ++ b2 ++ b1 ++ b0

/-- ERR <- code. -/
def State.setErr (s : State) (code : ErrCode) : State := { s with err := code }

/-- `raise CmdError(code)`, the CORE's one exception: ERR <- code, and nothing else changes (R203). There is no saved
state, no vector and no return (R212). -/
def raise (code : ErrCode) (s : State) : Result := .next (s.setErr code)

/-- A command that passed every check: its writes (made in `s'`) and ERR <- 0 together (R100). -/
def accept (s' : State) : Result := .next (s'.setErr .ok)

/-- The BUSY check, the first of every dispatch: while BUSY = 1 the command is rejected with code 3 (R100, R206). -/
def whileIdle (s : State) (k : Result) : Result := if s.busy then raise .busy s else k

/-- The step counter names step `n` of a running block. -/
def State.atStep (s : State) (n : BitVec 7) : Bool := s.busy && s.spc == n

/-- A sequencer micro-step: enabled only while BUSY = 1 and spc names it (43_block_function R165; log entry 4). -/
def microStep (enabled : Bool) (s' : State) : Result := if enabled then .next s' else .fault .stepNotSelected

end Sys2Proof.Machine
end

