-- ==== Sys2Proof/Machine/Arx.lean ====
section
/-! DEFINITION. The quarter-round mixer and its inverse (42_quarter_round). -/

namespace Sys2Proof.Machine

/-- The mixer's four words (R140). -/
structure Quad where
  a : Word
  b : Word
  c : Word
  d : Word
  deriving DecidableEq, Repr

/-- ARX(x, y, z, n): `x <- x +32 y; z <- z ^ x; z <- rotl32(z, n)`; answers the new x and z (R141). -/
def arx (x y z : Word) (n : Nat) : Word × Word := (x + y, rotl32 (z ^^^ (x + y)) n)

/-- ARX on (a, b, d). -/
def arxABD (q : Quad) (n : Nat) : Quad := { q with a := (arx q.a q.b q.d n).1, d := (arx q.a q.b q.d n).2 }

/-- ARX on (c, d, b). -/
def arxCDB (q : Quad) (n : Nat) : Quad := { q with c := (arx q.c q.d q.b n).1, b := (arx q.c q.d q.b n).2 }

/-- QR, the four ARX steps in their order (R140, R141). -/
def quarterRound (q : Quad) : Quad := arxCDB (arxABD (arxCDB (arxABD q 16) 12) 8) 7

/-- One line of QRinv on (b, c, d): `b <- rotr32(b, n); b <- b ^ c; c <- c -32 d` (R146). -/
def undoCDB (q : Quad) (n : Nat) : Quad := { q with b := rotr32 q.b n ^^^ q.c, c := q.c - q.d }

/-- One line of QRinv on (d, a, b): `d <- rotr32(d, n); d <- d ^ a; a <- a -32 b` (R146). -/
def undoABD (q : Quad) (n : Nat) : Quad := { q with d := rotr32 q.d n ^^^ q.a, a := q.a - q.b }

/-- QRinv (R146). It is no command; it states the mixer's invertibility. -/
def quarterRoundInv (q : Quad) : Quad := undoABD (undoCDB (undoABD (undoCDB q 7) 8) 12) 16

end Sys2Proof.Machine
end

