-- ==== Sys2Proof/Machine/Operands.lean ====
section
/-! DEFINITION. The operand forms: the W indices of the eight slots (43_block_function R161), the length operands of
INIT and INIT_CTR (41_state_initializer R123), the state matrix they build (R122), the add-back (R172) and the
serializer (R174). -/

namespace Sys2Proof.Machine

/-- The four W indices of a slot, in the order of the mixer's operands a, b, c, d (R161). -/
structure Slot where
  a : Fin 16
  b : Fin 16
  c : Fin 16
  d : Fin 16
  deriving DecidableEq, Repr

/-- q0, the first column. -/
def slotCol0 : Slot := ⟨0, 4, 8, 12⟩
/-- q1, the second column. -/
def slotCol1 : Slot := ⟨1, 5, 9, 13⟩
/-- q2, the third column. -/
def slotCol2 : Slot := ⟨2, 6, 10, 14⟩
/-- q3, the fourth column. -/
def slotCol3 : Slot := ⟨3, 7, 11, 15⟩
/-- q4, the first diagonal. -/
def slotDiag0 : Slot := ⟨0, 5, 10, 15⟩
/-- q5, the second diagonal. -/
def slotDiag1 : Slot := ⟨1, 6, 11, 12⟩
/-- q6, the third diagonal. -/
def slotDiag2 : Slot := ⟨2, 7, 8, 13⟩
/-- q7, the fourth diagonal. -/
def slotDiag3 : Slot := ⟨3, 4, 9, 14⟩

/-- The four words a slot reads (R166). -/
def slotQuad (t : Slot) (w : Vector Word 16) : Quad := ⟨w[t.a], w[t.b], w[t.c], w[t.d]⟩

/-- The four words a slot writes (R166). -/
def putQuad (t : Slot) (w : Vector Word 16) (q : Quad) : Vector Word 16 :=
  (((w.set t.a q.a).set t.b q.b).set t.c q.c).set t.d q.d

/-- (W[ia], W[ib], W[ic], W[id]) <- QR(W[ia], W[ib], W[ic], W[id]) (R166). -/
def applySlot (t : Slot) (w : Vector Word 16) : Vector Word 16 := putQuad t w (quarterRound (slotQuad t w))

/-- The constant words C[0..3] (R120). -/
def constWords : Vector Word 4 := #v[0x61707865, 0x3320646e, 0x79622d32, 0x6b206574]

/-- The length checks of INIT and INIT_CTR: the key's first, then the nonce's (R123). -/
def lengthError (klen nlen : BitVec 8) : Option ErrCode :=
  if klen.toNat ≠ 32 then some .invalidKeyLength
  else if nlen.toNat ≠ 8 then some .invalidNonceLength
  else none

/-- The matrix INIT and INIT_CTR build from constants, KEY, a counter and NONCE (R122, R124). -/
def initialMatrix (key : Vector Word 8) (lo hi : Word) (nonce : Vector Word 2) : Vector Word 16 :=
  #v[constWords[0], constWords[1], constWords[2], constWords[3],
     key[0], key[1], key[2], key[3], key[4], key[5], key[6], key[7],
     lo, hi, nonce[0], nonce[1]]

/-- Add-back: X[i] = W[i] +32 S[i] (R172). -/
def addBack (w s : Vector Word 16) : Vector Word 16 := Vector.ofFn fun i : Fin 16 => w[i] + s[i]

/-- The low counter word after one increment (R175). -/
def counterLo (lo : Word) : Word := lo + 1

/-- The high counter word after one increment: it moves when the low word wraps to zero (R175). -/
def counterHi (lo hi : Word) : Word := if lo + 1 = 0 then hi + 1 else hi

/-- S with its counter words S[12], S[13] incremented (R175). -/
def incrementCounter (s : Vector Word 16) : Vector Word 16 :=
  (s.set 12 (counterLo s[12])).set 13 (counterHi s[12] s[13])

/-- The serializer: K[4i + j] = X[i][8j+7 : 8j] (R174). -/
def serialize (x : Vector Word 16) : Vector Byte 64 :=
  Vector.ofFn fun k : Fin 64 => byteOf (x[k.val / 4]'(by omega)) (k.val % 4)

end Sys2Proof.Machine
end

