-- ==== Sys2Proof/Machine/Flags.lean ====
section
/-! DEFINITION. The status flags: the ERR code numbers (60_exceptions R200), the STATUS word (10_state R35,
20_memory R55), the 64-bit carry (43_block_function R175), and the updates that write flags together. -/

namespace Sys2Proof.Machine

/-- The number of an error code (R200). -/
def errBits : ErrCode → BitVec 4
  | .ok => 0
  | .invalidKeyLength => 1
  | .invalidNonceLength => 2
  | .busy => 3
  | .illegalOpcode => 4
  | .reservedBits => 5
  | .notInitialized => 6

/-- The STATUS word: zext_32(ERR ‖ 0000 ‖ CTR_WRAP ‖ OUT_VALID ‖ STATE_VALID ‖ BUSY) (R55). -/
def statusWord (s : State) : Word :=
  0#20 ++ errBits s.err ++ 0#4 ++ BitVec.ofBool s.ctrWrap ++ BitVec.ofBool s.outValid
    ++ BitVec.ofBool s.stateValid ++ BitVec.ofBool s.busy

/-- The increment carries out of the whole 64-bit counter: both words are all ones (R175). -/
def counterWraps (lo hi : Word) : Bool := lo == 0xFFFFFFFF#32 && hi == 0xFFFFFFFF#32

/-- The writes of an accepted INIT or INIT_CTR: S, and the common effects of R126. -/
def State.buildMatrix (s : State) (lo hi : Word) : State :=
  { s with
    S := initialMatrix s.key lo hi s.nonce
    stateValid := true
    outValid := false
    ctrWrap := false
    out := Vector.replicate 16 0 }

/-- The writes of an accepted QR: QOUT <- QR(QIN) (R147). -/
def State.runMixer (s : State) : State :=
  let q := quarterRound ⟨s.qin[0], s.qin[1], s.qin[2], s.qin[3]⟩
  { s with qout := #v[q.a, q.b, q.c, q.d] }

/-- The writes of an accepted NEXT_BLOCK: W <- S, spc <- 0, BUSY <- 1, OUT_VALID <- 0 (R160). -/
def State.startBlock (s : State) : State :=
  { s with W := s.S, spc := 0, busy := true, outValid := false }

/-- The writes of a quarter-round tick: the slot's four words of W, and spc <- spc + 1 (R166). -/
def State.quarterTick (s : State) (t : Slot) : State :=
  { s with W := applySlot t s.W, spc := s.spc + 1 }

/-- The writes of the finalize tick: OUT, the counter words and CTR_WRAP, and the completion flags (R172, R175, R176,
R177). W, ERR and the other flags keep their values. -/
def State.finishBlock (s : State) : State :=
  { s with
    out := addBack s.W s.S
    S := incrementCounter s.S
    ctrWrap := s.ctrWrap || counterWraps s.S[12] s.S[13]
    spc := 0
    busy := false
    outValid := true }

end Sys2Proof.Machine
end

