-- ==== Sys2Proof/Machine/Bus.lean ====
section
/-! DEFINITION. The register window: its map, what a read returns and what a write stores (20_memory R50 to R55). -/

namespace Sys2Proof.Machine

/-- The registers of the map (R55). -/
inductive Reg where
  | id
  | cmd
  | status
  | seq
  | key (i : Fin 8)
  | nonce (j : Fin 2)
  | ctrInLo
  | ctrInHi
  | ctrLo
  | ctrHi
  | out (i : Fin 16)
  | qin (j : Fin 4)
  | qout (j : Fin 4)
  | reserved
  deriving DecidableEq, Repr

/-- The register at word index `i`, that is at byte offset 4i (R55). -/
def regAt (i : BitVec 6) : Reg :=
  if i.toNat = 0 then .id
  else if i.toNat = 1 then .cmd
  else if i.toNat = 2 then .status
  else if i.toNat = 3 then .seq
  else if h : 4 ≤ i.toNat ∧ i.toNat ≤ 11 then .key ⟨i.toNat - 4, by omega⟩
  else if h : 12 ≤ i.toNat ∧ i.toNat ≤ 13 then .nonce ⟨i.toNat - 12, by omega⟩
  else if i.toNat = 14 then .ctrInLo
  else if i.toNat = 15 then .ctrInHi
  else if i.toNat = 16 then .ctrLo
  else if i.toNat = 17 then .ctrHi
  else if h : 32 ≤ i.toNat ∧ i.toNat ≤ 47 then .out ⟨i.toNat - 32, by omega⟩
  else if h : 48 ≤ i.toNat ∧ i.toNat ≤ 51 then .qin ⟨i.toNat - 48, by omega⟩
  else if h : 52 ≤ i.toNat ∧ i.toNat ≤ 55 then .qout ⟨i.toNat - 52, by omega⟩
  else .reserved

/-- The word index of a register (R55); `reserved` stands for many and answers the first of them. -/
def regIndex : Reg → BitVec 6
  | .id => 0
  | .cmd => 1
  | .status => 2
  | .seq => 3
  | .key i => BitVec.ofNat 6 (4 + i.val)
  | .nonce j => BitVec.ofNat 6 (12 + j.val)
  | .ctrInLo => 14
  | .ctrInHi => 15
  | .ctrLo => 16
  | .ctrHi => 17
  | .reserved => 18
  | .out i => BitVec.ofNat 6 (32 + i.val)
  | .qin j => BitVec.ofNat 6 (48 + j.val)
  | .qout j => BitVec.ofNat 6 (52 + j.val)

/-- The hardwired ID word (10_state R36). -/
def idWord : Word := 0x43433230

/-- The "read returns" column of R55. -/
def readReg (r : Reg) (s : State) : Word :=
  match r with
  | .id => idWord
  | .cmd => 0
  | .status => statusWord s
  | .seq => s.spc.zeroExtend 32
  | .key _ => 0
  | .nonce j => s.nonce[j]
  | .ctrInLo => s.ctrInLo
  | .ctrInHi => s.ctrInHi
  | .ctrLo => s.S[12]
  | .ctrHi => s.S[13]
  | .out i => s.out[i]
  | .qin j => s.qin[j]
  | .qout j => s.qout[j]
  | .reserved => 0

/-- MemRead of the register at word index `i`; it writes nothing (R52). -/
def busRead (i : BitVec 6) (s : State) : Word := readReg (regAt i) s

/-- The byte a byte-addressed host sees at byte offset `a` of the window: the little-endian bus (R51). -/
def busReadByte (a : BitVec 8) (s : State) : Byte :=
  byteOf (busRead (a.extractLsb' 2 6) s) (a.extractLsb' 0 2).toNat

/-- A write to STATUS: CTR_WRAP <- 0 if v[3] = 1, every other bit ignored (10_state R35). -/
def State.clearWrap (s : State) (v : Word) : State := { s with ctrWrap := s.ctrWrap && !v.getLsbD 3 }

/-- KEY[i] <- v (R31). -/
def State.setKey (s : State) (i : Fin 8) (v : Word) : State := { s with key := s.key.set i v }

/-- NONCE[j] <- v (R32). -/
def State.setNonce (s : State) (j : Fin 2) (v : Word) : State := { s with nonce := s.nonce.set j v }

/-- CTR_IN_LO <- v (R33). -/
def State.setCtrInLo (s : State) (v : Word) : State := { s with ctrInLo := v }

/-- CTR_IN_HI <- v (R33). -/
def State.setCtrInHi (s : State) (v : Word) : State := { s with ctrInHi := v }

/-- QIN[j] <- v (R34). -/
def State.setQin (s : State) (j : Fin 4) (v : Word) : State := { s with qin := s.qin.set j v }

/-- The "write does" column of R55, less the dispatch of CMD (Agents.lean): the write to a read-only or reserved
register is ignored without error (R53). -/
def writeReg (r : Reg) (v : Word) (s : State) : State :=
  match r with
  | .status => s.clearWrap v
  | .key i => s.setKey i v
  | .nonce j => s.setNonce j v
  | .ctrInLo => s.setCtrInLo v
  | .ctrInHi => s.setCtrInHi v
  | .qin j => s.setQin j v
  | .id => s
  | .cmd => s
  | .seq => s
  | .ctrLo => s
  | .ctrHi => s
  | .out _ => s
  | .qout _ => s
  | .reserved => s

end Sys2Proof.Machine
end

