-- ==== Sys2Proof/Machine/Block.lean ====
section
/-! DEFINITION. NEXT_BLOCK, the acceptance of a block (43_block_function R160). -/

namespace Sys2Proof.Machine

/-- NEXT_BLOCK: NOT_INITIALIZED (6) while STATE_VALID = 0, else the block starts (R160, R209). -/
def execNextBlock (s : State) : Result :=
  whileIdle s (if s.stateValid then accept s.startBlock else raise .notInitialized s)

end Sys2Proof.Machine
end

