-- ==== Sys2Proof/Machine/Control.lean ====
section
/-! DEFINITION. NOP (40_command_dispatch R101). -/

namespace Sys2Proof.Machine

/-- NOP: ERR <- 0 and no other change; BUSY (3) while a block runs (R101). -/
def execNop (s : State) : Result := whileIdle s (accept s)

end Sys2Proof.Machine
end

