-- ==== Sys2Proof/Machine/Initializer.lean ====
section
/-! DEFINITION. INIT and INIT_CTR (41_state_initializer). -/

namespace Sys2Proof.Machine

/-- The initializer with counter words `lo`, `hi`: the length checks, then the writes of R122 and R126. -/
def initialize64 (klen nlen : BitVec 8) (lo hi : Word) (s : State) : Result :=
  match lengthError klen nlen with
  | some code => raise code s
  | none => accept (s.buildMatrix lo hi)

/-- INIT: the counter starts at (0, 0) (R122). -/
def execInit (klen nlen : BitVec 8) (s : State) : Result :=
  whileIdle s (initialize64 klen nlen 0 0 s)

/-- INIT_CTR: the counter is CTR_IN_HI ‖ CTR_IN_LO (R124). -/
def execInitCtr (klen nlen : BitVec 8) (s : State) : Result :=
  whileIdle s (initialize64 klen nlen s.ctrInLo s.ctrInHi s)

end Sys2Proof.Machine
end

