-- ==== Sys2Proof/Machine/Mixer.lean ====
section
/-! DEFINITION. QR, the diagnostic quarter-round command (42_quarter_round R147). -/

namespace Sys2Proof.Machine

/-- QR: QOUT <- QR(QIN), ERR <- 0; it does not need STATE_VALID = 1 (R147). -/
def execQr (s : State) : Result := whileIdle s (accept s.runMixer)

end Sys2Proof.Machine
end

