-- ==== Sys2Proof/Machine/Sequencer.lean ====
section
/-! DEFINITION. The sequencer's micro-steps: the eight quarter-round ticks (43_block_function R166) and the finalize
tick (R170 to R177). -/

namespace Sys2Proof.Machine

/-- The quarter-round tick of slot number `q` with indices `t` in double-round `r`, enabled while BUSY = 1,
spc = 8r + q and spc < 80 (R87, R165; the table's guard). -/
def quarterRoundTick (q : BitVec 3) (t : Slot) (r : BitVec 4) (s : State) : Result :=
  microStep (s.atStep (r ++ q) && decide (s.spc < 80#7)) (s.quarterTick t)

/-- QR_COL0 (R161 q0). -/
def execQrCol0 (r : BitVec 4) (s : State) : Result := quarterRoundTick 0 slotCol0 r s

/-- QR_COL1 (R161 q1). -/
def execQrCol1 (r : BitVec 4) (s : State) : Result := quarterRoundTick 1 slotCol1 r s

/-- QR_COL2 (R161 q2). -/
def execQrCol2 (r : BitVec 4) (s : State) : Result := quarterRoundTick 2 slotCol2 r s

/-- QR_COL3 (R161 q3). -/
def execQrCol3 (r : BitVec 4) (s : State) : Result := quarterRoundTick 3 slotCol3 r s

/-- QR_DIAG0 (R161 q4). -/
def execQrDiag0 (r : BitVec 4) (s : State) : Result := quarterRoundTick 4 slotDiag0 r s

/-- QR_DIAG1 (R161 q5). -/
def execQrDiag1 (r : BitVec 4) (s : State) : Result := quarterRoundTick 5 slotDiag1 r s

/-- QR_DIAG2 (R161 q6). -/
def execQrDiag2 (r : BitVec 4) (s : State) : Result := quarterRoundTick 6 slotDiag2 r s

/-- QR_DIAG3 (R161 q7). -/
def execQrDiag3 (r : BitVec 4) (s : State) : Result := quarterRoundTick 7 slotDiag3 r s

/-- FINALIZE: add-back, serialization into OUT, counter increment, completion, in one tick, enabled while BUSY = 1 and
spc = 80 (R170). -/
def execFinalize (s : State) : Result := microStep (s.atStep 80) s.finishBlock

end Sys2Proof.Machine
end

