-- ==== Sys2Proof/Machine/Dispatch.lean ====
section
/-! DEFINITION. One arm per instruction. -/

namespace Sys2Proof.Machine

def exec (i : Instr) (s : State) : Host.Outcome State Fault Refusal :=
  match i with
  | .nop => Sys2Proof.Machine.execNop s
  | .init klen nlen => Sys2Proof.Machine.execInit klen nlen s
  | .initCtr klen nlen => Sys2Proof.Machine.execInitCtr klen nlen s
  | .nextBlock => Sys2Proof.Machine.execNextBlock s
  | .qr => Sys2Proof.Machine.execQr s
  | .qrCol0 r => Sys2Proof.Machine.execQrCol0 r s
  | .qrCol1 r => Sys2Proof.Machine.execQrCol1 r s
  | .qrCol2 r => Sys2Proof.Machine.execQrCol2 r s
  | .qrCol3 r => Sys2Proof.Machine.execQrCol3 r s
  | .qrDiag0 r => Sys2Proof.Machine.execQrDiag0 r s
  | .qrDiag1 r => Sys2Proof.Machine.execQrDiag1 r s
  | .qrDiag2 r => Sys2Proof.Machine.execQrDiag2 r s
  | .qrDiag3 r => Sys2Proof.Machine.execQrDiag3 r s
  | .finalize => Sys2Proof.Machine.execFinalize s

end Sys2Proof.Machine
end

