-- ==== Sys2Proof/Machine/Agents.lean ====
section
/-! DEFINITION. The two agents' turns: the dispatch of a command word (40_command_dispatch R100), the host's actions
(20_memory R52, R53, 60_exceptions R220) and the sequencer's tick (43_block_function R165). -/

namespace Sys2Proof.Machine

/-- The error code of a rejected command word (R207, R208). -/
def rejectCode : CmdReject → ErrCode
  | .illegalOpcode => .illegalOpcode
  | .reservedBits => .reservedBits

/-- Dispatch of the word `v` written to CMD (R100). A word that decodes runs its command, whose meaning makes the BUSY
check first; any other word is rejected, with BUSY before the decoder's reason (R204). -/
def dispatchCommand (v : Word) (s : State) : Result :=
  match decodeCmd v with
  | .ok i => exec i s
  | .error why => whileIdle s (raise (rejectCode why) s)

/-- MemWrite of `v` at word index `i` (R53). -/
def busWrite (i : BitVec 6) (v : Word) (s : State) : Result :=
  if regAt i = .cmd then dispatchCommand v s else .next (writeReg (regAt i) v s)

/-- The bus hands `v` back to the host. -/
def State.pushReply (s : State) (v : Word) : State := { s with replies := v :: s.replies }

/-- The host's next action becomes `a` (a poll that has to be repeated). -/
def State.pushAction (s : State) (a : HostAction) : State := { s with hostProgram := a :: s.hostProgram }

/-- Reset: every register of the CORE takes its reset value (R230); what the host does next, whose turn it is and what
it has read are no registers. -/
def State.resetRegisters (s : State) : State :=
  { State.reset with hostProgram := s.hostProgram, schedule := s.schedule, replies := s.replies }

/-- One action of the host, already taken from its program (R220, R88). -/
def hostAct (a : HostAction) (s : State) : Result :=
  match a with
  | .read i => .next (s.pushReply (busRead i s))
  | .write i v => busWrite i v s
  | .poll i mask v =>
    if busRead i s &&& mask = v then .next (s.pushReply (busRead i s))
    else .next ((s.pushReply (busRead i s)).pushAction (.poll i mask v))
  | .reset => .next s.resetRegisters

/-- The host's program becomes `p`. -/
def State.setProgram (s : State) (p : List HostAction) : State := { s with hostProgram := p }

/-- The host's turn: its next action in program order; a host with nothing to do leaves the state as it is (R219, log
entry 2). -/
def hostTurn (s : State) : Result :=
  match s.hostProgram with
  | [] => .next s
  | a :: rest => hostAct a (s.setProgram rest)

/-- The sequencer's turn: while BUSY = 1 the micro-step spc names; while BUSY = 0 it has no step (R165, log entry 2). -/
def sequencerTurn (s : State) : Result :=
  if s.busy then
    match decodeSeq s.spc with
    | .ok i => exec i s
    | .error _ => .fault .spcOutOfRange
  else .next s

/-- One agent's turn. -/
def agentTurn (a : Agent) (s : State) : Result :=
  match a with
  | .host => hostTurn s
  | .sequencer => sequencerTurn s

/-- Whose turn it is when the schedule says nothing: the sequencer's while a block runs, so that an enabled tick is
taken in the end (R251), else the host's (log entry 1). -/
def defaultAgent (s : State) : Agent := if s.busy then .sequencer else .host

/-- The schedule becomes `l`. -/
def State.setSchedule (s : State) (l : List Agent) : State := { s with schedule := l }

/-- Fetch: whose turn comes next, and the state with that turn taken from the schedule (R12). -/
def nextTurn (s : State) : Agent × State :=
  match s.schedule with
  | [] => (defaultAgent s, s)
  | a :: rest => (a, s.setSchedule rest)

/-- `s` with the host's very next action a write of `v` to CMD, and the next turn the host's. -/
def State.placeCommand (s : State) (v : Word) : State :=
  (s.pushAction (.write (regIndex .cmd) v)).setSchedule (.host :: s.schedule)

/-- `s` with a block running at step `n`, and the next turn the sequencer's. -/
def State.placeMicroStep (s : State) (n : BitVec 7) : State :=
  { s with busy := true, spc := n, schedule := .sequencer :: s.schedule }

/-- `s` with the code `c` as the next one the machine runs (log entry 12). -/
def State.placeCode (s : State) (c : Code) : State :=
  match c with
  | .cmd v => s.placeCommand v
  | .seq n => s.placeMicroStep n

end Sys2Proof.Machine
end

