-- ==== Sys2Proof/Machine/Step.lean ====
section
/-! DEFINITION. One step of the machine: one agent's atomic step (00_scope R12). -/

namespace Sys2Proof.Machine

/-- The agent whose turn it is takes its step. -/
def step (s : State) : Host.Outcome State Fault Refusal :=
  agentTurn (nextTurn s).1 (nextTurn s).2

/-- `s` with the instruction whose opcode-table bits are `w` stored where `step` fetches its next instruction: a
command word as the host's next write to CMD, a step number in spc of a running block (log entries 12 and 13). -/
def State.withFetchWord (s : State) (nbits w : Nat) : State :=
  match tableCode nbits w with
  | some c => s.placeCode c
  | none => s

end Sys2Proof.Machine
end

