-- ==== Sys2Proof/Machine/HostAssembly.lean ====
section
/-! DEFINITION. The host assembly of 30_encoding R88 and the expansions of its pseudo-instructions (R89). -/

namespace Sys2Proof.Machine

/-- The base statements (R88) and the pseudo-instructions (R89). `rd OFF = VAL` is a test's check, not an operation of
the CORE, and has no statement of its own. -/
inductive AsmStmt where
  | wr (index : BitVec 6) (v : Word)
  | rd (index : BitVec 6)
  | poll (index : BitVec 6) (mask v : Word)
  | nop
  | init
  | initCtr
  | next
  | qr
  | initLens (klen nlen : BitVec 8)
  | initCtrLens (klen nlen : BitVec 8)
  | cmd (w : Word)
  | wait
  | block
  | loadkey (b : Vector Byte 32)
  | loadnonce (b : Vector Byte 8)
  | loadctr (hi lo : Word)
  | loadqr (a b c d : Word)
  | clrwrap
  deriving DecidableEq, Repr

/-- `wr` to a named register. -/
def asmWrite (r : Reg) (v : Word) : HostAction := .write (regIndex r) v

/-- `wr CMD, w`. -/
def asmCommand (w : Word) : HostAction := asmWrite .cmd w

/-- `(N << 16) | (K << 8) | op` (R89). -/
def asmLengths (op : Word) (klen nlen : BitVec 8) : Word :=
  (nlen.zeroExtend 32 <<< 16) ||| (klen.zeroExtend 32 <<< 8) ||| op

/-- `poll STATUS, 0x1, 0x0` (R89). -/
def asmWait : HostAction := .poll (regIndex .status) 0x1 0x0

/-- le32(key, 4i) of a 32-byte key (R10). -/
def keyWord (b : Vector Byte 32) (i : Fin 8) : Word :=
  le32 (b[4 * i.val]'(by omega)) (b[4 * i.val + 1]'(by omega)) (b[4 * i.val + 2]'(by omega)) (b[4 * i.val + 3]'(by omega))

/-- le32(nonce, 4j) of an 8-byte nonce (R10). -/
def nonceWord (b : Vector Byte 8) (j : Fin 2) : Word :=
  le32 (b[4 * j.val]'(by omega)) (b[4 * j.val + 1]'(by omega)) (b[4 * j.val + 2]'(by omega)) (b[4 * j.val + 3]'(by omega))

/-- The bus accesses a statement stands for, in order (R88, R89). -/
def asmExpand : AsmStmt → List HostAction
  | .wr i v => [.write i v]
  | .rd i => [.read i]
  | .poll i m v => [.poll i m v]
  | .nop => [asmCommand 0x00000000]
  | .init => [asmCommand 0x00082001]
  | .initCtr => [asmCommand 0x00082002]
  | .next => [asmCommand 0x00000003]
  | .qr => [asmCommand 0x00000004]
  | .initLens k n => [asmCommand (asmLengths 0x1 k n)]
  | .initCtrLens k n => [asmCommand (asmLengths 0x2 k n)]
  | .cmd w => [asmCommand w]
  | .wait => [asmWait]
  | .block => [asmCommand 0x00000003, asmWait]
  | .loadkey b =>
    [asmWrite (.key 0) (keyWord b 0), asmWrite (.key 1) (keyWord b 1), asmWrite (.key 2) (keyWord b 2),
     asmWrite (.key 3) (keyWord b 3), asmWrite (.key 4) (keyWord b 4), asmWrite (.key 5) (keyWord b 5),
     asmWrite (.key 6) (keyWord b 6), asmWrite (.key 7) (keyWord b 7)]
  | .loadnonce b => [asmWrite (.nonce 0) (nonceWord b 0), asmWrite (.nonce 1) (nonceWord b 1)]
  | .loadctr hi lo => [asmWrite .ctrInLo lo, asmWrite .ctrInHi hi]
  | .loadqr a b c d =>
    [asmWrite (.qin 0) a, asmWrite (.qin 1) b, asmWrite (.qin 2) c, asmWrite (.qin 3) d]
  | .clrwrap => [asmWrite .status 0x00000008]

/-- The bus accesses of a host program (R88). -/
def asmProgram (p : List AsmStmt) : List HostAction := p.flatMap asmExpand

end Sys2Proof.Machine
end

