-- ==== Sys2Proof/Machine/Permutation.lean ====
section
/-! DEFINITION. The permutation and the block function as functions of the state matrix (43_block_function R162 to
R164, R178), in the terms statements use. The machine itself runs the ticks of Sequencer.lean. -/

namespace Sys2Proof.Machine

/-- ColumnRound (R162). -/
def columnRound (w : Vector Word 16) : Vector Word 16 :=
  applySlot slotCol3 (applySlot slotCol2 (applySlot slotCol1 (applySlot slotCol0 w)))

/-- DiagonalRound (R163). -/
def diagonalRound (w : Vector Word 16) : Vector Word 16 :=
  applySlot slotDiag3 (applySlot slotDiag2 (applySlot slotDiag1 (applySlot slotDiag0 w)))

/-- DoubleRound: the column round, then the diagonal round (R164). -/
def doubleRound (w : Vector Word 16) : Vector Word 16 := diagonalRound (columnRound w)

/-- `n` double-rounds. -/
def doubleRounds : Nat → Vector Word 16 → Vector Word 16
  | 0, w => w
  | n + 1, w => doubleRound (doubleRounds n w)

/-- P: ten double-rounds (R164). -/
def permute (w : Vector Word 16) : Vector Word 16 := doubleRounds 10 w

/-- The slot of the quarter-round tick at spc = `n`: slot n mod 8 (R166). -/
def slotAt (n : Nat) : Slot :=
  match n % 8 with
  | 0 => slotCol0
  | 1 => slotCol1
  | 2 => slotCol2
  | 3 => slotCol3
  | 4 => slotDiag0
  | 5 => slotDiag1
  | 6 => slotDiag2
  | _ => slotDiag3

/-- W after the quarter-round ticks at spc = 0, ..., n - 1 (R165, R166). -/
def afterTicks : Nat → Vector Word 16 → Vector Word 16
  | 0, w => w
  | n + 1, w => applySlot (slotAt n) (afterTicks n w)

/-- The output words of a block: P(S) +32 S (R178). -/
def blockWords (s : Vector Word 16) : Vector Word 16 := addBack (permute s) s

/-- ChaChaBlock(S): the 64 keystream bytes (R178). -/
def chachaBlock (s : Vector Word 16) : Vector Byte 64 := serialize (blockWords s)

/-- The 64-bit block counter S[13] ‖ S[12] (20_memory R61). -/
def counterOf (s : Vector Word 16) : BitVec 64 := s[13] ++ s[12]

/-- S with its 64-bit counter set to `c`. -/
def withCounter (s : Vector Word 16) (c : BitVec 64) : Vector Word 16 :=
  (s.set 12 (c.extractLsb' 0 32)).set 13 (c.extractLsb' 32 32)

end Sys2Proof.Machine
end

