-- ==== Sys2Proof/Safety.lean ====
section
/-! DEFINITION. What statements speak of: sequences of steps, and the invariants of a safe run. -/

namespace Sys2Proof.Machine

/-- `r`, then `k` from the state it answers; a stop is final. -/
def andThen (r : Result) (k : State → Result) : Result :=
  match r with
  | .next s => k s
  | .fault f => .fault f
  | .refused f => .refused f

/-- `n` steps of the machine. -/
def steps : Nat → State → Result
  | 0, s => .next s
  | n + 1, s => andThen (step s) (steps n)

/-- `n` ticks of the sequencer with nothing between them (43_block_function R165). -/
def ticks : Nat → State → Result
  | 0, s => .next s
  | n + 1, s => andThen (sequencerTurn s) (ticks n)

/-- Actions of the host one after another, with no tick between them (20_memory R62). -/
def hostActs : List HostAction → State → Result
  | [], s => .next s
  | a :: rest, s => andThen (hostAct a s) (hostActs rest)

/-- One NEXT_BLOCK run to completion: its acceptance and 81 ticks (43_block_function R178). -/
def runBlock (s : State) : Result := andThen (exec .nextBlock s) (ticks 81)

/-- `n` consecutive NEXT_BLOCKs, each run to completion (43_block_function R180). -/
def runBlocks : Nat → State → Result
  | 0, s => .next s
  | n + 1, s => andThen (runBlocks n s) runBlock

/-- The step counter holds 0..80, and 0 while BUSY = 0 (10_state R24). -/
def SpcInRange (s : State) : Prop := s.spc ≤ 80#7 ∧ (s.busy = false → s.spc = 0)

/-- While BUSY = 1 the state matrix is valid, OUT is not, and W holds S after the spc quarter-round ticks already run
(R26, R28, 43_block_function R160, R166). -/
def BlockInProgress (s : State) : Prop :=
  s.busy = true → s.stateValid = true ∧ s.outValid = false ∧ s.W = afterTicks s.spc.toNat s.S

/-- Once STATE_VALID = 1, S[0..3] are the constants (41_state_initializer R125). -/
def ConstantsHeld (s : State) : Prop :=
  s.stateValid = true →
    s.S[0] = 0x61707865 ∧ s.S[1] = 0x3320646e ∧ s.S[2] = 0x79622d32 ∧ s.S[3] = 0x6b206574

/-- Before the first INIT or INIT_CTR since reset, S and OUT are zero and no block has been produced (R27, R40). -/
def NothingBeforeInit (s : State) : Prop :=
  s.stateValid = false →
    s.S = Vector.replicate 16 0 ∧ s.out = Vector.replicate 16 0 ∧ s.outValid = false ∧ s.ctrWrap = false

/-- While OUT_VALID = 1, OUT is the block of the state matrix with its counter one back, and W that matrix permuted
(R28, 43_block_function R177, R178). -/
def OutHoldsBlock (s : State) : Prop :=
  s.outValid = true →
    s.W = permute (withCounter s.S (counterOf s.S - 1)) ∧
    s.out = blockWords (withCounter s.S (counterOf s.S - 1))

/-- The machine's invariant. -/
def CoreInv (s : State) : Prop :=
  SpcInRange s ∧ BlockInProgress s ∧ ConstantsHeld s ∧ NothingBeforeInit s ∧ OutHoldsBlock s

/-- A safe run: no number of steps ends in a fault or a refusal. -/
def Safe (s : State) : Prop := ∀ n, ∃ t, steps n s = .next t

/-- The host action that the machine's next step takes, if it takes one. -/
def takenAction (s : State) : Option HostAction :=
  match (nextTurn s).1 with
  | .host => s.hostProgram.head?
  | .sequencer => none

/-- The next step writes the word `v` to CMD (offset 0x04). -/
def WritesCmd (s : State) (v : Word) : Prop := takenAction s = some (.write 0x01#6 v)

/-- The next step writes the word of an INIT or INIT_CTR to CMD. -/
def WritesInit (s : State) : Prop :=
  ∃ v k n, WritesCmd s v ∧ (decodeCmd v = .ok (.init k n) ∨ decodeCmd v = .ok (.initCtr k n))

/-- The next step is the tick at spc = `n` of a running block. -/
def TakesTick (s : State) (n : BitVec 7) : Prop :=
  (nextTurn s).1 = .sequencer ∧ s.busy = true ∧ s.spc = n

/-- The next step is a reset. -/
def TakesReset (s : State) : Prop := takenAction s = some .reset

/-- Two states agree on everything the bus can read and on the host's side; they may differ in KEY, W, S[0..11] and
S[14..15] (60_exceptions R214). -/
def SameWindow (s t : State) : Prop :=
  s.S[12] = t.S[12] ∧ s.S[13] = t.S[13] ∧ s.spc = t.spc ∧ s.out = t.out ∧ s.busy = t.busy ∧
  s.stateValid = t.stateValid ∧ s.outValid = t.outValid ∧ s.ctrWrap = t.ctrWrap ∧ s.err = t.err ∧
  s.nonce = t.nonce ∧ s.ctrInLo = t.ctrInLo ∧ s.ctrInHi = t.ctrInHi ∧ s.qin = t.qin ∧ s.qout = t.qout

/-- Two states agree on the flags and counters that control the CORE, whatever their data words (R168). -/
def SameControl (s t : State) : Prop :=
  s.spc = t.spc ∧ s.busy = t.busy ∧ s.stateValid = t.stateValid ∧ s.outValid = t.outValid ∧ s.err = t.err

end Sys2Proof.Machine
end

