-- ==== Sys2Proof/Certificates/Slice0/Obligations.lean ====
section
/-! DEFINITION. The statements for the provers. Each docstring names the rules of spec/ it formalises. -/

open Sys2Proof Sys2Proof.Machine

/-! ### Commands -/

/-- R101: NOP writes ERR <- 0 and nothing else; BUSY (3) while a block runs; RESERVED_BITS (5) if v[31:4] != 0. -/
def Obligations.NopWritesErrOnly : Prop :=
  ∀ s : State,
    (s.busy = false → exec .nop s = .next { s with err := .ok }) ∧
    (s.busy = true → exec .nop s = .next { s with err := .busy }) ∧
    dispatchCommand 0x00000000#32 s = exec .nop s ∧
    (∀ v : Word, s.busy = false → v.extractLsb' 0 4 = 0x0#4 → v.extractLsb' 4 28 ≠ 0#28 →
      dispatchCommand v s = .next { s with err := .reservedBits })

/-- R122: INIT builds S from the constants, KEY, a zero counter and NONCE, with the common effects of R126; its length
errors, key first; BUSY while a block runs. -/
def Obligations.InitBuildsMatrix : Prop :=
  ∀ (klen nlen : BitVec 8) (s : State),
    (s.busy = false → klen = 32#8 → nlen = 8#8 →
      exec (.init klen nlen) s = .next { s with
        S := #v[0x61707865, 0x3320646e, 0x79622d32, 0x6b206574,
                s.key[0], s.key[1], s.key[2], s.key[3], s.key[4], s.key[5], s.key[6], s.key[7],
                0x00000000, 0x00000000, s.nonce[0], s.nonce[1]]
        stateValid := true, outValid := false, ctrWrap := false
        out := Vector.replicate 16 0, err := .ok }) ∧
    (s.busy = false → klen ≠ 32#8 → exec (.init klen nlen) s = .next { s with err := .invalidKeyLength }) ∧
    (s.busy = false → klen = 32#8 → nlen ≠ 8#8 →
      exec (.init klen nlen) s = .next { s with err := .invalidNonceLength }) ∧
    (s.busy = true → exec (.init klen nlen) s = .next { s with err := .busy }) ∧
    dispatchCommand 0x00082001#32 s = exec (.init 32#8 8#8) s ∧
    (∀ v : Word, s.busy = false → v.extractLsb' 0 4 = 0x1#4 → (v.extractLsb' 24 8 ≠ 0#8 ∨ v.extractLsb' 4 4 ≠ 0#4) →
      dispatchCommand v s = .next { s with err := .reservedBits })

/-- R124: INIT_CTR is INIT with the counter words CTR_IN_LO and CTR_IN_HI; with CTR_IN = 0:0 it equals INIT. -/
def Obligations.InitCtrBuildsMatrixAtCounter : Prop :=
  ∀ (klen nlen : BitVec 8) (s : State),
    (s.busy = false → klen = 32#8 → nlen = 8#8 →
      exec (.initCtr klen nlen) s = .next { s with
        S := #v[0x61707865, 0x3320646e, 0x79622d32, 0x6b206574,
                s.key[0], s.key[1], s.key[2], s.key[3], s.key[4], s.key[5], s.key[6], s.key[7],
                s.ctrInLo, s.ctrInHi, s.nonce[0], s.nonce[1]]
        stateValid := true, outValid := false, ctrWrap := false
        out := Vector.replicate 16 0, err := .ok }) ∧
    (s.busy = false → klen ≠ 32#8 → exec (.initCtr klen nlen) s = .next { s with err := .invalidKeyLength }) ∧
    (s.busy = false → klen = 32#8 → nlen ≠ 8#8 →
      exec (.initCtr klen nlen) s = .next { s with err := .invalidNonceLength }) ∧
    (s.busy = true → exec (.initCtr klen nlen) s = .next { s with err := .busy }) ∧
    (s.ctrInLo = 0 → s.ctrInHi = 0 → exec (.initCtr klen nlen) s = exec (.init klen nlen) s) ∧
    dispatchCommand 0x00082002#32 s = exec (.initCtr 32#8 8#8) s ∧
    (∀ v : Word, s.busy = false → v.extractLsb' 0 4 = 0x2#4 → (v.extractLsb' 24 8 ≠ 0#8 ∨ v.extractLsb' 4 4 ≠ 0#4) →
      dispatchCommand v s = .next { s with err := .reservedBits })

/-- R123, R201, R202: the lengths of the command word are checked, the key's first, and a wrong one leaves everything
but ERR. -/
def Obligations.LengthErrorsOfCommandWord : Prop :=
  ∀ (v : Word) (s : State), s.busy = false → (v.extractLsb' 0 4 = 0x1#4 ∨ v.extractLsb' 0 4 = 0x2#4) →
    v.extractLsb' 4 4 = 0#4 → v.extractLsb' 24 8 = 0#8 →
    ((v.extractLsb' 8 8).toNat ≠ 32 → dispatchCommand v s = .next { s with err := .invalidKeyLength }) ∧
    ((v.extractLsb' 8 8).toNat = 32 → (v.extractLsb' 16 8).toNat ≠ 8 →
      dispatchCommand v s = .next { s with err := .invalidNonceLength }) ∧
    ((v.extractLsb' 8 8).toNat = 32 → (v.extractLsb' 16 8).toNat = 8 →
      ∃ t, dispatchCommand v s = .next t ∧ t.err = .ok ∧ t.stateValid = true)

/-- R126: the common effects of an accepted INIT or INIT_CTR, and what neither changes. -/
def Obligations.AcceptedInitCommonEffects : Prop :=
  ∀ (klen nlen : BitVec 8) (s t : State), t.err = .ok →
    (exec (.init klen nlen) s = .next t ∨ exec (.initCtr klen nlen) s = .next t) →
    t.stateValid = true ∧ t.outValid = false ∧ t.ctrWrap = false ∧ (∀ (i : Nat) (_ : i < 16), t.out[i] = 0) ∧
    t.W = s.W ∧ t.spc = s.spc ∧ t.busy = s.busy ∧ t.qin = s.qin ∧ t.qout = s.qout ∧ t.key = s.key ∧
    t.nonce = s.nonce ∧ t.ctrInLo = s.ctrInLo ∧ t.ctrInHi = s.ctrInHi

/-- R147: QR computes QOUT from QIN and writes nothing else but ERR; it needs no STATE_VALID; the rule's example and its
zero corner. -/
def Obligations.QrWritesQout : Prop :=
  (∀ s : State,
    (s.busy = false → exec .qr s = .next { s with
      qout := #v[(quarterRound ⟨s.qin[0], s.qin[1], s.qin[2], s.qin[3]⟩).a,
                 (quarterRound ⟨s.qin[0], s.qin[1], s.qin[2], s.qin[3]⟩).b,
                 (quarterRound ⟨s.qin[0], s.qin[1], s.qin[2], s.qin[3]⟩).c,
                 (quarterRound ⟨s.qin[0], s.qin[1], s.qin[2], s.qin[3]⟩).d]
      err := .ok }) ∧
    (s.busy = true → exec .qr s = .next { s with err := .busy }) ∧
    dispatchCommand 0x00000004#32 s = exec .qr s ∧
    (∀ v : Word, s.busy = false → v.extractLsb' 0 4 = 0x4#4 → v.extractLsb' 4 28 ≠ 0#28 →
      dispatchCommand v s = .next { s with err := .reservedBits })) ∧
  quarterRound ⟨0, 0, 0, 0⟩ = ⟨0, 0, 0, 0⟩ ∧
  quarterRound ⟨0x11111111, 0x01020304, 0x9b8d6f43, 0x01234567⟩ =
    ⟨0xea2a92f4, 0xcb1cf8ce, 0x4581472e, 0x5881c4bb⟩

/-- R160 (the acceptance): NEXT_BLOCK copies S to W and starts the sequencer; BUSY while a block runs;
RESERVED_BITS. -/
def Obligations.NextBlockStartsBlock : Prop :=
  ∀ s : State,
    (s.busy = false → s.stateValid = true →
      exec .nextBlock s = .next { s with W := s.S, spc := 0#7, busy := true, outValid := false, err := .ok }) ∧
    (s.busy = true → exec .nextBlock s = .next { s with err := .busy }) ∧
    dispatchCommand 0x00000003#32 s = exec .nextBlock s ∧
    (∀ v : Word, s.busy = false → v.extractLsb' 0 4 = 0x3#4 → v.extractLsb' 4 28 ≠ 0#28 →
      dispatchCommand v s = .next { s with err := .reservedBits })

/-- R209: NEXT_BLOCK with STATE_VALID = 0 is NOT_INITIALIZED (6), and produces no block. -/
def Obligations.NextBlockNeedsValidState : Prop :=
  ∀ s : State, s.busy = false → s.stateValid = false →
    exec .nextBlock s = .next { s with err := .notInitialized } ∧
    dispatchCommand 0x00000003#32 s = .next { s with err := .notInitialized }

/-! ### Dispatch and errors -/

/-- R100: a write to CMD dispatches its word in the same step: the checks in their order, the command each opcode
selects, and full effect with ERR = 0 or nothing but ERR. -/
def Obligations.DispatchChecksInOrder : Prop :=
  ∀ (v : Word) (s : State),
    hostAct (.write 0x01#6 v) s = dispatchCommand v s ∧
    dispatchCommand v s =
      (if s.busy = true then .next { s with err := .busy }
      else if 5 ≤ (v.extractLsb' 0 4).toNat then .next { s with err := .illegalOpcode }
      else if (v.extractLsb' 0 4 = 0x1#4 ∨ v.extractLsb' 0 4 = 0x2#4) ∧
          (v.extractLsb' 24 8 ≠ 0#8 ∨ v.extractLsb' 4 4 ≠ 0#4) then .next { s with err := .reservedBits }
      else if (v.extractLsb' 0 4 = 0x0#4 ∨ v.extractLsb' 0 4 = 0x3#4 ∨ v.extractLsb' 0 4 = 0x4#4) ∧
          v.extractLsb' 4 28 ≠ 0#28 then .next { s with err := .reservedBits }
      else if v.extractLsb' 0 4 = 0x0#4 then exec .nop s
      else if v.extractLsb' 0 4 = 0x1#4 then exec (.init (v.extractLsb' 8 8) (v.extractLsb' 16 8)) s
      else if v.extractLsb' 0 4 = 0x2#4 then exec (.initCtr (v.extractLsb' 8 8) (v.extractLsb' 16 8)) s
      else if v.extractLsb' 0 4 = 0x3#4 then exec .nextBlock s
      else exec .qr s) ∧
    ∃ t, dispatchCommand v s = .next t ∧ (t.err = .ok ∨ t = { s with err := t.err })

/-- R204: the code a CMD write reports is the first condition that holds, in the order 3, 4, 5, 1, 2, 6. -/
def Obligations.ReportedErrorIsFirstInPriority : Prop :=
  ∀ (v : Word) (s : State), ∃ t, dispatchCommand v s = .next t ∧
    errBits t.err =
      if s.busy = true then 3#4
      else if 5 ≤ (v.extractLsb' 0 4).toNat then 4#4
      else if ((v.extractLsb' 0 4 = 0x1#4 ∨ v.extractLsb' 0 4 = 0x2#4) ∧
          (v.extractLsb' 24 8 ≠ 0#8 ∨ v.extractLsb' 4 4 ≠ 0#4)) ∨
          ((v.extractLsb' 0 4 = 0x0#4 ∨ v.extractLsb' 0 4 = 0x3#4 ∨ v.extractLsb' 0 4 = 0x4#4) ∧
            v.extractLsb' 4 28 ≠ 0#28) then 5#4
      else if (v.extractLsb' 0 4 = 0x1#4 ∨ v.extractLsb' 0 4 = 0x2#4) ∧ (v.extractLsb' 8 8).toNat ≠ 32 then 1#4
      else if (v.extractLsb' 0 4 = 0x1#4 ∨ v.extractLsb' 0 4 = 0x2#4) ∧ (v.extractLsb' 16 8).toNat ≠ 8 then 2#4
      else if v.extractLsb' 0 4 = 0x3#4 ∧ s.stateValid = false then 6#4
      else 0#4

/-- R83, R102, R207: an opcode 0x5..0xF is ILLEGAL_OPCODE (4) whatever its other bits, BUSY (3) while a block runs, and
changes nothing else. -/
def Obligations.IllegalOpcodeRejected : Prop :=
  ∀ (v : Word) (s : State), 5 ≤ (v.extractLsb' 0 4).toNat →
    (s.busy = false → dispatchCommand v s = .next { s with err := .illegalOpcode }) ∧
    (s.busy = true → dispatchCommand v s = .next { s with err := .busy })

/-- R84, R208: a legal opcode with a required-zero bit set is RESERVED_BITS (5) and changes nothing else. -/
def Obligations.ReservedBitsRejected : Prop :=
  ∀ (v : Word) (s : State), s.busy = false →
    ((v.extractLsb' 0 4 = 0x1#4 ∨ v.extractLsb' 0 4 = 0x2#4) →
      (v.extractLsb' 24 8 ≠ 0#8 ∨ v.extractLsb' 4 4 ≠ 0#4) →
      dispatchCommand v s = .next { s with err := .reservedBits }) ∧
    ((v.extractLsb' 0 4 = 0x0#4 ∨ v.extractLsb' 0 4 = 0x3#4 ∨ v.extractLsb' 0 4 = 0x4#4) →
      v.extractLsb' 4 28 ≠ 0#28 → dispatchCommand v s = .next { s with err := .reservedBits })

/-- R206: while BUSY = 1 every CMD write is rejected with ERR = 3 and nothing else changes, and no tick, the
finalize tick among them, writes ERR. -/
def Obligations.BusyRejectsEveryCommand : Prop :=
  ∀ s : State, s.busy = true →
    (∀ v : Word, dispatchCommand v s = .next { s with err := .busy }) ∧
    (∀ t, sequencerTurn s = .next t → t.err = s.err)

/-- R203: a CMD write always answers a next state, and a rejected one has written ERR and nothing else. -/
def Obligations.RejectionWritesErrOnly : Prop :=
  ∀ (v : Word) (s : State), ∃ t, dispatchCommand v s = .next t ∧ (t.err ≠ .ok → t = { s with err := t.err })

/-- R211: a CMD write and a finalize tick, in either order. -/
def Obligations.CommandAndFinalizeInEitherOrder : Prop :=
  ∀ s : State, s.busy = true → s.spc = 80#7 →
    (∀ v : Word, ∃ t, dispatchCommand v s = .next t ∧ t.err = .busy) ∧
    (∃ u, sequencerTurn s = .next u ∧ u.busy = false ∧
      ∀ v : Word, dispatchCommand v u = match decodeCmd v with
        | .ok i => exec i u
        | .error .illegalOpcode => .next { u with err := .illegalOpcode }
        | .error .reservedBits => .next { u with err := .reservedBits })

/-! ### The mixer -/

/-- R140, R141: the mixer's twelve assignments in their order. -/
def Obligations.QuarterRoundSequence : Prop :=
  ∀ a b c d : Word,
    quarterRound ⟨a, b, c, d⟩ =
      (let a1 := a + b
       let d1 := rotl32 (d ^^^ a1) 16
       let c1 := c + d1
       let b1 := rotl32 (b ^^^ c1) 12
       let a2 := a1 + b1
       let d2 := rotl32 (d1 ^^^ a2) 8
       let c2 := c1 + d2
       let b2 := rotl32 (b1 ^^^ c2) 7
       ⟨a2, b2, c2, d2⟩)

/-- R9 and R144: bit i of rotl32(x, n) is bit (i - n) mod 32 of x; rotation by 16 swaps the halves;
0 and 0xFFFFFFFF are fixed. -/
def Obligations.RotationMovesBits : Prop :=
  (∀ (x : Word) (n i : Nat), 0 < n → n < 32 → i < 32 →
    (rotl32 x n).getLsbD i = x.getLsbD ((i + 32 - n) % 32)) ∧
  (∀ x : Word, rotl32 x 16 = x.extractLsb' 0 16 ++ x.extractLsb' 16 16) ∧
  (∀ n : Nat, 0 < n → n < 32 → rotl32 0 n = 0 ∧ rotl32 0xFFFFFFFF n = 0xFFFFFFFF)

/-- R146: the inverse sequence, and QRinv(QR(x)) = x for every x. -/
def Obligations.QuarterRoundIsInvertible : Prop :=
  (∀ q : Quad, quarterRoundInv (quarterRound q) = q) ∧
  (∀ a b c d : Word,
    quarterRoundInv ⟨a, b, c, d⟩ =
      (let b1 := rotr32 b 7 ^^^ c
       let c1 := c - d
       let d1 := rotr32 d 8 ^^^ a
       let a1 := a - b1
       let b2 := rotr32 b1 12 ^^^ c1
       let c2 := c1 - d1
       let d2 := rotr32 d1 16 ^^^ a1
       let a2 := a1 - b2
       ⟨a2, b2, c2, d2⟩))

/-! ### The sequencer -/

/-- R166, R161, with spc = 8r + q the concatenation of r and q (log entry 14): each quarter-round tick applies the mixer to its slot's four words of W and advances spc by 1; nothing
else changes. -/
def Obligations.QuarterRoundTicks : Prop :=
  ∀ (r : BitVec 4) (s : State), r < 10#4 → s.busy = true →
    (s.spc = r ++ 0#3 → exec (.qrCol0 r) s = .next { s with W := applySlot ⟨0, 4, 8, 12⟩ s.W, spc := s.spc + 1 }) ∧
    (s.spc = r ++ 1#3 → exec (.qrCol1 r) s = .next { s with W := applySlot ⟨1, 5, 9, 13⟩ s.W, spc := s.spc + 1 }) ∧
    (s.spc = r ++ 2#3 → exec (.qrCol2 r) s = .next { s with W := applySlot ⟨2, 6, 10, 14⟩ s.W, spc := s.spc + 1 }) ∧
    (s.spc = r ++ 3#3 → exec (.qrCol3 r) s = .next { s with W := applySlot ⟨3, 7, 11, 15⟩ s.W, spc := s.spc + 1 }) ∧
    (s.spc = r ++ 4#3 → exec (.qrDiag0 r) s = .next { s with W := applySlot ⟨0, 5, 10, 15⟩ s.W, spc := s.spc + 1 }) ∧
    (s.spc = r ++ 5#3 → exec (.qrDiag1 r) s = .next { s with W := applySlot ⟨1, 6, 11, 12⟩ s.W, spc := s.spc + 1 }) ∧
    (s.spc = r ++ 6#3 → exec (.qrDiag2 r) s = .next { s with W := applySlot ⟨2, 7, 8, 13⟩ s.W, spc := s.spc + 1 }) ∧
    (s.spc = r ++ 7#3 → exec (.qrDiag3 r) s = .next { s with W := applySlot ⟨3, 4, 9, 14⟩ s.W, spc := s.spc + 1 })

/-- R161, R166: a slot with four distinct indices writes the mixer's four words to them and leaves every other word. -/
def Obligations.SlotWritesItsFourWords : Prop :=
  ∀ (ia ib ic id : Fin 16) (w : Vector Word 16), [ia, ib, ic, id].Nodup →
    (applySlot ⟨ia, ib, ic, id⟩ w)[ia] = (quarterRound ⟨w[ia], w[ib], w[ic], w[id]⟩).a ∧
    (applySlot ⟨ia, ib, ic, id⟩ w)[ib] = (quarterRound ⟨w[ia], w[ib], w[ic], w[id]⟩).b ∧
    (applySlot ⟨ia, ib, ic, id⟩ w)[ic] = (quarterRound ⟨w[ia], w[ib], w[ic], w[id]⟩).c ∧
    (applySlot ⟨ia, ib, ic, id⟩ w)[id] = (quarterRound ⟨w[ia], w[ib], w[ic], w[id]⟩).d ∧
    ∀ i : Fin 16, i ∉ [ia, ib, ic, id] → (applySlot ⟨ia, ib, ic, id⟩ w)[i] = w[i]

/-- R172, R175, R177: the finalize tick in full: add-back into OUT, the counter increment with CTR_WRAP, completion; W,
ERR and everything else keep their values. -/
def Obligations.FinalizeTick : Prop :=
  ∀ s : State, s.busy = true → s.spc = 80#7 →
    exec .finalize s = .next { s with
      out := #v[s.W[0] + s.S[0], s.W[1] + s.S[1], s.W[2] + s.S[2], s.W[3] + s.S[3],
                s.W[4] + s.S[4], s.W[5] + s.S[5], s.W[6] + s.S[6], s.W[7] + s.S[7],
                s.W[8] + s.S[8], s.W[9] + s.S[9], s.W[10] + s.S[10], s.W[11] + s.S[11],
                s.W[12] + s.S[12], s.W[13] + s.S[13], s.W[14] + s.S[14], s.W[15] + s.S[15]]
      S := (s.S.set 12 (s.S[12] + 1)).set 13 (if s.S[12] + 1 = 0 then s.S[13] + 1 else s.S[13])
      ctrWrap := if s.S[12] = 0xFFFFFFFF ∧ s.S[13] = 0xFFFFFFFF then true else s.ctrWrap
      spc := 0#7, busy := false, outValid := true }

/-- R165: the sequencer has no tick while BUSY = 0 (its turn then leaves the state as it is, log entry 2), and while
BUSY = 1 a tick is the step spc names. -/
def Obligations.TickRunsStepNamedBySpc : Prop :=
  ∀ s : State,
    (s.busy = false → sequencerTurn s = .next s) ∧
    (s.busy = true → s.spc = 80#7 → sequencerTurn s = exec .finalize s) ∧
    (s.busy = true → s.spc.toNat ≤ 79 →
      sequencerTurn s = exec (slotInstr (BitVec.ofNat 3 (s.spc.toNat % 8)) (BitVec.ofNat 4 (s.spc.toNat / 8))) s ∧
      ∃ t, sequencerTurn s = .next t ∧ t.spc = s.spc + 1 ∧ t.busy = true)

/-- R165 (the guard of the micro-steps), as the model has it (log entry 4): a micro-step that spc does not name, or
executed while BUSY = 0, or of a double-round above 9, is stuck under a name of its own. -/
def Obligations.UnselectedMicroStepIsStuck : Prop :=
  ∀ (r : BitVec 4) (s : State),
    ((s.busy = false ∨ s.spc ≠ r ++ 0#3) → exec (.qrCol0 r) s = .fault .stepNotSelected) ∧
    ((s.busy = false ∨ s.spc ≠ r ++ 1#3) → exec (.qrCol1 r) s = .fault .stepNotSelected) ∧
    ((s.busy = false ∨ s.spc ≠ r ++ 2#3) → exec (.qrCol2 r) s = .fault .stepNotSelected) ∧
    ((s.busy = false ∨ s.spc ≠ r ++ 3#3) → exec (.qrCol3 r) s = .fault .stepNotSelected) ∧
    ((s.busy = false ∨ s.spc ≠ r ++ 4#3) → exec (.qrDiag0 r) s = .fault .stepNotSelected) ∧
    ((s.busy = false ∨ s.spc ≠ r ++ 5#3) → exec (.qrDiag1 r) s = .fault .stepNotSelected) ∧
    ((s.busy = false ∨ s.spc ≠ r ++ 6#3) → exec (.qrDiag2 r) s = .fault .stepNotSelected) ∧
    ((s.busy = false ∨ s.spc ≠ r ++ 7#3) → exec (.qrDiag3 r) s = .fault .stepNotSelected) ∧
    ((s.busy = false ∨ s.spc ≠ 80#7) → exec .finalize s = .fault .stepNotSelected) ∧
    (10#4 ≤ r → ∀ i ∈ [Instr.qrCol0 r, .qrCol1 r, .qrCol2 r, .qrCol3 r, .qrDiag0 r, .qrDiag1 r, .qrDiag2 r, .qrDiag3 r],
      exec i s = .fault .stepNotSelected)

/-- R162, R163: the four tuples of a round cover every word exactly once, so the four quarter-rounds may run in any
order, or all at once on the words the round started from. -/
def Obligations.RoundLanesAreIndependent : Prop :=
  (∀ i : Fin 16,
    (∃! t, t ∈ [slotCol0, slotCol1, slotCol2, slotCol3] ∧ i ∈ [t.a, t.b, t.c, t.d]) ∧
    (∃! t, t ∈ [slotDiag0, slotDiag1, slotDiag2, slotDiag3] ∧ i ∈ [t.a, t.b, t.c, t.d])) ∧
  (∀ (w : Vector Word 16) (l : List Slot), l.Perm [slotCol0, slotCol1, slotCol2, slotCol3] →
    l.foldl (fun u t => applySlot t u) w = columnRound w) ∧
  (∀ (w : Vector Word 16) (l : List Slot), l.Perm [slotDiag0, slotDiag1, slotDiag2, slotDiag3] →
    l.foldl (fun u t => applySlot t u) w = diagonalRound w) ∧
  (∀ (w : Vector Word 16) (t : Slot), t ∈ [slotCol0, slotCol1, slotCol2, slotCol3] →
    slotQuad t (columnRound w) = quarterRound (slotQuad t w)) ∧
  (∀ (w : Vector Word 16) (t : Slot), t ∈ [slotDiag0, slotDiag1, slotDiag2, slotDiag3] →
    slotQuad t (diagonalRound w) = quarterRound (slotQuad t w))

/-- R164, R166: the 80 quarter-round ticks compute P, ten double-rounds of the column round and then the diagonal
round. -/
def Obligations.EightyTicksComputePermutation : Prop :=
  (∀ w : Vector Word 16, permute w = (fun u => diagonalRound (columnRound u))^[10] w) ∧
  (∀ s : State, s.busy = true → s.spc = 0#7 →
    ticks 80 s = .next { s with W := permute s.W, spc := 80#7 })

/-! ### The block function -/

/-- R178, R250: NEXT_BLOCK from a valid idle state, run to completion: 81 ticks, no fewer, leave OUT = P(S) +32 S, the
byte view of OUT equal to ChaChaBlock(S), and S with its counter incremented. -/
def Obligations.CompletedBlockIsChaChaBlock : Prop :=
  ∀ s : State, s.busy = false → s.stateValid = true →
    runBlock s = .next { s with
      W := permute s.S
      out := Vector.ofFn fun i : Fin 16 => (permute s.S)[i] + s.S[i]
      S := (s.S.set 12 (s.S[12] + 1)).set 13 (if s.S[12] + 1 = 0 then s.S[13] + 1 else s.S[13])
      ctrWrap := if s.S[12] = 0xFFFFFFFF ∧ s.S[13] = 0xFFFFFFFF then true else s.ctrWrap
      spc := 0#7, busy := false, outValid := true, err := .ok } ∧
    (∀ n, n ≤ 80 → ∃ u, andThen (exec .nextBlock s) (ticks n) = .next u ∧ u.busy = true ∧ u.S = s.S ∧ u.out = s.out) ∧
    (∃ t, runBlock s = .next t ∧
      ∀ (k : Nat) (h : k < 64), busReadByte (BitVec.ofNat 8 (0x80 + k)) t = (chachaBlock s.S)[k])

/-- From R12, R179, R206: whatever the host does between the ticks, but reset, and however its accesses and the ticks
interleave, the running block ends with its last tick and is the block of S at acceptance. The model's choices in it: the
interleaving is its schedule (log entry 1), the host's accesses its program (log entry 3), and a host turn after the
program is used up leaves the state as it is (log entry 2). -/
def Obligations.BlockUnderAnyInterleaving : Prop :=
  ∀ (s : State) (l : List Agent), CoreInv s → s.busy = true → (∀ a ∈ s.hostProgram, a ≠ .reset) →
    s.schedule = l ++ [.sequencer] → l.count .sequencer + s.spc.toNat = 80 →
    ∃ t, steps (l.length + 1) s = .next t ∧ t.busy = false ∧ t.outValid = true ∧ t.spc = 0#7 ∧
      t.out = blockWords s.S ∧ t.S = incrementCounter s.S ∧ t.schedule = []

/-- R179, R241: no host action but reset disturbs a running block. -/
def Obligations.HostCannotDisturbBlock : Prop :=
  ∀ (a : HostAction) (s : State), s.busy = true → a ≠ .reset →
    ∃ t, hostAct a s = .next t ∧ t.S = s.S ∧ t.W = s.W ∧ t.spc = s.spc ∧ t.out = s.out ∧ t.busy = true ∧
      t.stateValid = s.stateValid ∧ t.outValid = s.outValid ∧ t.qout = s.qout

/-- R175: the increment is the addition of one to the 64-bit counter S[13] ‖ S[12], and the finalize tick sets CTR_WRAP
exactly when that counter was all ones. -/
def Obligations.CounterIncrementIsSixtyFourBit : Prop :=
  ∀ s : State, s.busy = true → s.spc = 80#7 →
    ∃ t, exec .finalize s = .next t ∧ counterOf t.S = counterOf s.S + 1 ∧
      (t.ctrWrap = true ↔ s.ctrWrap = true ∨ counterOf s.S = 0xFFFFFFFFFFFFFFFF#64) ∧
      (∀ (i : Nat) (_ : i < 16), i ≠ 12 → i ≠ 13 → t.S[i] = s.S[i])

/-- R180: after INIT and N completed blocks the counter words are N mod 2^32 and N div 2^32, and the N-th block is the
block of counter N - 1. -/
def Obligations.CounterAfterBlocks : Prop :=
  ∀ (s : State) (n : Nat), s.busy = false →
    ∃ u t, exec (.init 32#8 8#8) s = .next u ∧ runBlocks n u = .next t ∧
      t.S[12] = BitVec.ofNat 32 n ∧ t.S[13] = BitVec.ofNat 32 (n / 2 ^ 32) ∧
      (0 < n → t.out = blockWords (withCounter u.S (BitVec.ofNat 64 (n - 1))))

/-- R174, R60: K[4i + j] = X[i][8j+7 : 8j], and the host sees keystream byte k at offset 0x80 + k. -/
def Obligations.KeystreamBytesAtOutWindow : Prop :=
  (∀ (x : Vector Word 16) (i j : Nat) (_ : i < 16) (_ : j < 4),
    (serialize x)[4 * i + j] = x[i].extractLsb' (8 * j) 8) ∧
  (∀ (s : State) (k : Nat) (_ : k < 64), busReadByte (BitVec.ofNat 8 (0x80 + k)) s = (serialize s.out)[k])

/-! ### The register window -/

/-- R52 with the read column of R55: what a bus read returns at every word index, and that a read changes no register.
The value of SEQ is this CORE's own (93 U4); no other statement rests on it. -/
def Obligations.BusReadsFollowMap : Prop :=
  ∀ s : State,
    busRead 0x00#6 s = 0x43433230 ∧
    busRead 0x01#6 s = 0 ∧
    busRead 0x02#6 s = 0#20 ++ errBits s.err ++ 0#4 ++ BitVec.ofBool s.ctrWrap ++ BitVec.ofBool s.outValid
      ++ BitVec.ofBool s.stateValid ++ BitVec.ofBool s.busy ∧
    busRead 0x03#6 s = s.spc.zeroExtend 32 ∧
    (∀ (i : Nat) (_ : i < 8), busRead (BitVec.ofNat 6 (0x10 / 4 + i)) s = 0) ∧
    (∀ (j : Nat) (_ : j < 2), busRead (BitVec.ofNat 6 (0x30 / 4 + j)) s = s.nonce[j]) ∧
    busRead (BitVec.ofNat 6 (0x38 / 4)) s = s.ctrInLo ∧
    busRead (BitVec.ofNat 6 (0x3C / 4)) s = s.ctrInHi ∧
    busRead (BitVec.ofNat 6 (0x40 / 4)) s = s.S[12] ∧
    busRead (BitVec.ofNat 6 (0x44 / 4)) s = s.S[13] ∧
    (∀ i : Nat, 0x48 / 4 ≤ i → i ≤ 0x7C / 4 → busRead (BitVec.ofNat 6 i) s = 0) ∧
    (∀ (i : Nat) (_ : i < 16), busRead (BitVec.ofNat 6 (0x80 / 4 + i)) s = s.out[i]) ∧
    (∀ (j : Nat) (_ : j < 4), busRead (BitVec.ofNat 6 (0xC0 / 4 + j)) s = s.qin[j]) ∧
    (∀ (j : Nat) (_ : j < 4), busRead (BitVec.ofNat 6 (0xD0 / 4 + j)) s = s.qout[j]) ∧
    (∀ i : Nat, 0xE0 / 4 ≤ i → i ≤ 0xFC / 4 → busRead (BitVec.ofNat 6 i) s = 0) ∧
    (∀ i : BitVec 6, hostAct (.read i) s = .next { s with replies := busRead i s :: s.replies })

/-- R53 with the write column of R55: what a bus write does at every word index. -/
def Obligations.BusWritesFollowMap : Prop :=
  ∀ (v : Word) (s : State),
    hostAct (.write 0x00#6 v) s = .next s ∧
    hostAct (.write 0x01#6 v) s = dispatchCommand v s ∧
    hostAct (.write 0x02#6 v) s = .next { s with ctrWrap := if v.getLsbD 3 = true then false else s.ctrWrap } ∧
    hostAct (.write 0x03#6 v) s = .next s ∧
    (∀ (i : Nat) (_ : i < 8),
      hostAct (.write (BitVec.ofNat 6 (0x10 / 4 + i)) v) s = .next { s with key := s.key.set i v }) ∧
    (∀ (j : Nat) (_ : j < 2),
      hostAct (.write (BitVec.ofNat 6 (0x30 / 4 + j)) v) s = .next { s with nonce := s.nonce.set j v }) ∧
    hostAct (.write (BitVec.ofNat 6 (0x38 / 4)) v) s = .next { s with ctrInLo := v } ∧
    hostAct (.write (BitVec.ofNat 6 (0x3C / 4)) v) s = .next { s with ctrInHi := v } ∧
    (∀ i : Nat, 0x40 / 4 ≤ i → i ≤ 0xBC / 4 → hostAct (.write (BitVec.ofNat 6 i) v) s = .next s) ∧
    (∀ (j : Nat) (_ : j < 4),
      hostAct (.write (BitVec.ofNat 6 (0xC0 / 4 + j)) v) s = .next { s with qin := s.qin.set j v }) ∧
    (∀ i : Nat, 0xD0 / 4 ≤ i → i ≤ 0xFC / 4 → hostAct (.write (BitVec.ofNat 6 i) v) s = .next s)

/-- R35: the fields of STATUS, each at its bits, the reserved bits zero; a write clears CTR_WRAP if v[3] = 1 and changes
nothing else; a read changes no register. -/
def Obligations.StatusFields : Prop :=
  ∀ s : State,
    (busRead 0x02#6 s).getLsbD 0 = s.busy ∧ (busRead 0x02#6 s).getLsbD 1 = s.stateValid ∧
    (busRead 0x02#6 s).getLsbD 2 = s.outValid ∧ (busRead 0x02#6 s).getLsbD 3 = s.ctrWrap ∧
    (busRead 0x02#6 s).extractLsb' 4 4 = 0#4 ∧
    (busRead 0x02#6 s).extractLsb' 8 4 = (match s.err with
      | .ok => 0#4
      | .invalidKeyLength => 1#4
      | .invalidNonceLength => 2#4
      | .busy => 3#4
      | .illegalOpcode => 4#4
      | .reservedBits => 5#4
      | .notInitialized => 6#4) ∧
    (busRead 0x02#6 s).extractLsb' 12 20 = 0#20 ∧
    (∀ v : Word, v.getLsbD 3 = true → hostAct (.write 0x02#6 v) s = .next { s with ctrWrap := false }) ∧
    (∀ v : Word, v.getLsbD 3 = false → hostAct (.write 0x02#6 v) s = .next s) ∧
    hostAct (.read 0x02#6) s = .next { s with replies := busRead 0x02#6 s :: s.replies } ∧
    busRead 0x02#6 State.reset = 0

/-- R22, R23, R31, R214: nothing the bus can read depends on KEY, W, S[0..11] or S[14..15]. -/
def Obligations.KeyMaterialIsNotReadable : Prop :=
  ∀ s t : State, SameWindow s t → ∀ i : BitVec 6, busRead i s = busRead i t

/-- R59: the host's `loadkey` and `loadnonce` make KEY[i] = le32(key, 4i) and NONCE[j] = le32(nonce, 4j): byte 4i + k is
bits 8k+7:8k of the word. -/
def Obligations.KeyAndNonceBytesLittleEndian : Prop :=
  ∀ (key : Vector Byte 32) (nonce : Vector Byte 8) (s : State),
    ∃ t, hostActs (asmProgram [.loadkey key, .loadnonce nonce]) s = .next t ∧
      (∀ (i k : Nat) (_ : i < 8) (_ : k < 4), t.key[i].extractLsb' (8 * k) 8 = key[4 * i + k]) ∧
      (∀ (j k : Nat) (_ : j < 2) (_ : k < 4), t.nonce[j].extractLsb' (8 * k) 8 = nonce[4 * j + k]) ∧
      t = { s with key := t.key, nonce := t.nonce }

/-- R88: `poll` repeats its read until (result & MASK) = VAL; each repetition is one read, returned to the host. That an
unmet poll stays the host's next action is the model's form of the repetition (log entry 3). -/
def Obligations.PollRepeatsUntilMatch : Prop :=
  ∀ (i : BitVec 6) (mask v : Word) (s : State),
    (busRead i s &&& mask = v → hostAct (.poll i mask v) s = .next { s with replies := busRead i s :: s.replies }) ∧
    (busRead i s &&& mask ≠ v → hostAct (.poll i mask v) s = .next { s with
      replies := busRead i s :: s.replies, hostProgram := .poll i mask v :: s.hostProgram })

/-! ### Reset -/

/-- R40, R36: the reset value of every register, and ID hardwired in every state. -/
def Obligations.ResetValues : Prop :=
  (∀ (i : Nat) (_ : i < 16), State.reset.S[i] = 0 ∧ State.reset.W[i] = 0 ∧ State.reset.out[i] = 0) ∧
  State.reset.spc = 0 ∧ State.reset.busy = false ∧ State.reset.stateValid = false ∧ State.reset.outValid = false ∧
  State.reset.ctrWrap = false ∧ errBits State.reset.err = 0 ∧
  (∀ (i : Nat) (_ : i < 8), State.reset.key[i] = 0) ∧ (∀ (j : Nat) (_ : j < 2), State.reset.nonce[j] = 0) ∧
  State.reset.ctrInLo = 0 ∧ State.reset.ctrInHi = 0 ∧
  (∀ (j : Nat) (_ : j < 4), State.reset.qin[j] = 0 ∧ State.reset.qout[j] = 0) ∧
  (∀ s : State, busRead 0x00#6 s = 0x43433230 ∧ ∀ v : Word, hostAct (.write 0x00#6 v) s = .next s)

/-- R230, R231, R233: reset in any state, a running block among them, leaves every register at its reset value, so that
no read afterwards depends on what the CORE held before. That reset is one step and keeps the host's own fields is the
model's choice (log entries 3 and 8). -/
def Obligations.ResetAbandonsBlockAndKeys : Prop :=
  ∀ s : State,
    hostAct .reset s = .next { State.reset with
      hostProgram := s.hostProgram, schedule := s.schedule, replies := s.replies } ∧
    (∀ s' t t' : State, hostAct .reset s = .next t → hostAct .reset s' = .next t' →
      t.key = t'.key ∧ t.S = t'.S ∧ t.W = t'.W ∧ t.out = t'.out ∧ ∀ i : BitVec 6, busRead i t = busRead i t')

/-! ### Decoding -/

/-- From R82, R87: canonical words and step numbers, written out from the tables, decode to what they stand for; that
spc = 81 is no step is the model's reading (log entry 5). -/
def Obligations.SampleCodesDecode : Prop :=
  decodeCmd 0x00000000#32 = .ok .nop ∧ decodeCmd 0x00082001#32 = .ok (.init 32#8 8#8) ∧
  decodeCmd 0x00082002#32 = .ok (.initCtr 32#8 8#8) ∧ decodeCmd 0x00000003#32 = .ok .nextBlock ∧
  decodeCmd 0x00000004#32 = .ok .qr ∧ decodeCmd 0x00072001#32 = .ok (.init 32#8 7#8) ∧
  decodeCmd 0x00081F02#32 = .ok (.initCtr 31#8 8#8) ∧ decodeCmd 0xFFFFFFFF#32 = .error .illegalOpcode ∧
  decodeCmd 0x01082001#32 = .error .reservedBits ∧ decodeSeq 0#7 = .ok (.qrCol0 0#4) ∧
  decodeSeq 14#7 = .ok (.qrDiag2 1#4) ∧ decodeSeq 79#7 = .ok (.qrDiag3 9#4) ∧ decodeSeq 80#7 = .ok .finalize ∧
  decodeSeq 81#7 = .error .noSuchStep

/-- From R80, R81, R82, R87: decoding the encoding of a well-formed instruction gives it back, with every operand. -/
def Obligations.DecodeOfEncode : Prop :=
  ∀ i : Instr, i.wellFormed = true → decode (encode i) = .ok i

/-- From R82, R87, with no step for spc = 81..127 (log entry 5): a code has one meaning: what decodes is well-formed,
and its encoding is the code it came from. -/
def Obligations.EncodeOfDecode : Prop :=
  ∀ (c : Code) (i : Instr), decode c = .ok i → i.wellFormed = true ∧ encode i = c

/-! ### The machine's step -/

/-- From R12, R57, R165: a step runs the decoded instruction, after taking the turn from the schedule and, for a
command, the write from the host's program. The schedule and the host's program are the model's (log entries 1, 3). -/
def Obligations.StepRunsDecodedInstruction : Prop :=
  (∀ (s : State) (v : Word) (i : Instr) (p : List HostAction) (l : List Agent),
    s.hostProgram = .write 0x01#6 v :: p → decodeCmd v = .ok i →
    (s.schedule = .host :: l → step s = exec i { s with hostProgram := p, schedule := l }) ∧
    (s.schedule = [] → s.busy = false → step s = exec i { s with hostProgram := p })) ∧
  (∀ (s : State) (i : Instr) (l : List Agent), s.busy = true → decodeSeq s.spc = .ok i →
    (s.schedule = .sequencer :: l → step s = exec i { s with schedule := l }) ∧
    (s.schedule = [] → step s = exec i s))

/-- A command word placed for the fetch runs as its command in the very state it was placed in; a step number runs as its
micro-step with BUSY = 1 and spc naming it. The placing is the model's (log entries 12 and 13). -/
def Obligations.FetchedWordIsWhatRuns : Prop :=
  ∀ (s : State) (nbits w : Nat) (i : Instr), decodeTableWord nbits w = some i →
    (8 < nbits → step (s.withFetchWord nbits w) = exec i s) ∧
    (nbits ≤ 8 → step (s.withFetchWord nbits w) = exec i { s with busy := true, spc := BitVec.ofNat 7 w })

/-- The invariant holds right after reset. -/
def Obligations.InvariantAtReset : Prop := CoreInv State.reset

/-- R24, R26, R27, R28, R125, R178: every step keeps the invariant: spc in range, W the partial permutation of S while a
block runs, the constants in place, OUT the block of the previous counter while OUT_VALID = 1. -/
def Obligations.StepKeepsInvariant : Prop :=
  ∀ s t : State, CoreInv s → step s = .next t → CoreInv t

/-- From a state that meets the invariant the machine always takes a next step: no fault and no refusal. At an idle turn
(the host with nothing to do, the sequencer while BUSY = 0) there is a next state by the model's choice (log entry 2). -/
def Obligations.StepNeverStopsUnderInvariant : Prop :=
  ∀ s : State, CoreInv s → ∃ t, step s = .next t

/-- From reset, every host program under every interleaving (the model's fields of log entries 1 and 3) runs forever
without a fault or a refusal, an idle turn leaving the state as it is (log entry 2). -/
def Obligations.EveryHostProgramIsSafe : Prop :=
  ∀ (p : List HostAction) (l : List Agent), Safe { State.reset with hostProgram := p, schedule := l }

/-! ### Who writes what -/

/-- R21, R125: only reset, an INIT or INIT_CTR, and the finalize tick (S[12] and S[13] only) change S. -/
def Obligations.WritersOfStateMatrix : Prop :=
  ∀ s t : State, step s = .next t → t.S ≠ s.S →
    TakesReset s ∨ WritesInit s ∨
    (TakesTick s 80#7 ∧ ∀ (i : Nat) (_ : i < 16), i ≠ 12 → i ≠ 13 → t.S[i] = s.S[i])

/-- R25, R176: only reset, an INIT or INIT_CTR, and the finalize tick change OUT. -/
def Obligations.WritersOfOut : Prop :=
  ∀ s t : State, step s = .next t → t.out ≠ s.out → TakesReset s ∨ WritesInit s ∨ TakesTick s 80#7

/-- R30: only a CMD write and reset change ERR. -/
def Obligations.WritersOfErr : Prop :=
  ∀ s t : State, step s = .next t → t.err ≠ s.err → TakesReset s ∨ ∃ v, WritesCmd s v

/-- R29: CTR_WRAP is set only by a finalize tick whose counter is all ones, and cleared only by a STATUS write with bit 3
set, an INIT or INIT_CTR, and reset. -/
def Obligations.CtrWrapIsSticky : Prop :=
  ∀ s t : State, step s = .next t →
    (s.ctrWrap = false → t.ctrWrap = true →
      TakesTick s 80#7 ∧ s.S[12] = 0xFFFFFFFF ∧ s.S[13] = 0xFFFFFFFF) ∧
    (s.ctrWrap = true → t.ctrWrap = false →
      TakesReset s ∨ WritesInit s ∨ ∃ v : Word, takenAction s = some (.write 0x02#6 v) ∧ v.getLsbD 3 = true)

/-- R26, R27, R28: what sets and clears BUSY, STATE_VALID and OUT_VALID. -/
def Obligations.WritersOfFlags : Prop :=
  ∀ s t : State, step s = .next t →
    (s.busy = false → t.busy = true → ∃ v, WritesCmd s v ∧ decodeCmd v = .ok .nextBlock ∧ s.stateValid = true) ∧
    (s.busy = true → t.busy = false → TakesReset s ∨ TakesTick s 80#7) ∧
    (s.stateValid = false → t.stateValid = true → WritesInit s) ∧
    (s.stateValid = true → t.stateValid = false → TakesReset s) ∧
    (s.outValid = false → t.outValid = true → TakesTick s 80#7) ∧
    (s.outValid = true → t.outValid = false →
      TakesReset s ∨ WritesInit s ∨ ∃ v, WritesCmd s v ∧ decodeCmd v = .ok .nextBlock)

/-- R31 to R34, R241: the staging registers are written by the host and by reset only, QOUT by QR and reset only, W and
spc by NEXT_BLOCK, a tick and reset only. -/
def Obligations.WritersOfStagingAndSequencer : Prop :=
  ∀ s t : State, step s = .next t → ¬ TakesReset s →
    (∀ (i : Nat) (_ : i < 8), t.key[i] ≠ s.key[i] →
      takenAction s = some (.write (BitVec.ofNat 6 (0x10 / 4 + i)) t.key[i])) ∧
    (∀ (j : Nat) (_ : j < 2), t.nonce[j] ≠ s.nonce[j] →
      takenAction s = some (.write (BitVec.ofNat 6 (0x30 / 4 + j)) t.nonce[j])) ∧
    (t.ctrInLo ≠ s.ctrInLo → takenAction s = some (.write (BitVec.ofNat 6 (0x38 / 4)) t.ctrInLo)) ∧
    (t.ctrInHi ≠ s.ctrInHi → takenAction s = some (.write (BitVec.ofNat 6 (0x3C / 4)) t.ctrInHi)) ∧
    (∀ (j : Nat) (_ : j < 4), t.qin[j] ≠ s.qin[j] →
      takenAction s = some (.write (BitVec.ofNat 6 (0xC0 / 4 + j)) t.qin[j])) ∧
    (t.qout ≠ s.qout → ∃ v, WritesCmd s v ∧ decodeCmd v = .ok .qr) ∧
    (t.W ≠ s.W ∨ t.spc ≠ s.spc → TakesTick s s.spc ∨ ∃ v, WritesCmd s v ∧ decodeCmd v = .ok .nextBlock)

/-! ### Frames and information flow -/

/-- R21, R31 to R34, R126, R147, R166: no instruction writes a staging register or the host's side, and each leaves the
registers outside its own effect. -/
def Obligations.InstructionFrames : Prop :=
  ∀ (i : Instr) (s t : State), exec i s = .next t →
    t.key = s.key ∧ t.nonce = s.nonce ∧ t.ctrInLo = s.ctrInLo ∧ t.ctrInHi = s.ctrInHi ∧ t.qin = s.qin ∧
    t.hostProgram = s.hostProgram ∧ t.schedule = s.schedule ∧ t.replies = s.replies ∧
    (i ≠ .qr → t.qout = s.qout) ∧
    ((∀ k n, i ≠ .init k n) → (∀ k n, i ≠ .initCtr k n) → t.stateValid = s.stateValid ∧
      (i ≠ .finalize → t.S = s.S ∧ t.out = s.out ∧ t.ctrWrap = s.ctrWrap)) ∧
    ((∃ k n, i = .init k n ∨ i = .initCtr k n) ∨ i = .nop ∨ i = .qr → t.W = s.W ∧ t.spc = s.spc ∧ t.busy = s.busy) ∧
    ((∃ r, i = .qrCol0 r ∨ i = .qrCol1 r ∨ i = .qrCol2 r ∨ i = .qrCol3 r ∨ i = .qrDiag0 r ∨ i = .qrDiag1 r ∨
      i = .qrDiag2 r ∨ i = .qrDiag3 r) → t.busy = s.busy ∧ t.outValid = s.outValid) ∧
    (i = .finalize → t.W = s.W) ∧
    (i = .nop ∨ i = .qr → t.outValid = s.outValid) ∧
    ((∃ k n, i = .init k n ∨ i = .initCtr k n) ∨ i = .nop ∨ i = .qr ∨ i = .nextBlock ∨ t.err = s.err)

/-- R55 and the effects of R101, R122, R124, R147, R160, R166, R170: the only bytes of the register window that an
instruction can change lie in STATUS, and in the registers named here for it. -/
def Obligations.WindowFrames : Prop :=
  ∀ (i : Instr) (s t : State) (a : BitVec 8), exec i s = .next t → a.toNat / 4 ≠ 0x08 / 4 →
    (i = .nop → busReadByte a t = busReadByte a s) ∧
    (i = .qr → ¬ (0xD0 ≤ a.toNat ∧ a.toNat < 0xE0) → busReadByte a t = busReadByte a s) ∧
    ((∃ k n, i = .init k n ∨ i = .initCtr k n) → ¬ (0x40 ≤ a.toNat ∧ a.toNat < 0x48) →
      ¬ (0x80 ≤ a.toNat ∧ a.toNat < 0xC0) → busReadByte a t = busReadByte a s) ∧
    (i = .finalize → ¬ (0x0C ≤ a.toNat ∧ a.toNat < 0x10) → ¬ (0x40 ≤ a.toNat ∧ a.toNat < 0x48) →
      ¬ (0x80 ≤ a.toNat ∧ a.toNat < 0xC0) → busReadByte a t = busReadByte a s) ∧
    (i ≠ .finalize → i ≠ .qr → (∀ k n, i ≠ .init k n) → (∀ k n, i ≠ .initCtr k n) →
      ¬ (0x0C ≤ a.toNat ∧ a.toNat < 0x10) → busReadByte a t = busReadByte a s)

/-- R168, R252: the control of the sequencer does not depend on a data value: two states that agree on the flags and spc,
whatever S, W, KEY and the other words hold, tick alike. -/
def Obligations.ControlIsDataIndependent : Prop :=
  ∀ s t s' : State, SameControl s t → sequencerTurn s = .next s' →
    ∃ t', sequencerTurn t = .next t' ∧ SameControl s' t'
end

