-- ==== Sys2Proof/Config.lean ====
section
/-! DEFINITION. The parameters the spec leaves open (00_scope R7, 70_reset_and_hazards R230). Each is a constant
without a body, so no proof can see its value; no rule of the CORE depends on any of them (log entry 10). -/

namespace Sys2Proof

/-- BASE_ADDRESS: where the register window sits in the host's address space (R7, R56). -/
opaque Config.baseAddress : Nat

/-- One less than CYCLES_PER_TICK, so that the parameter itself is positive (R7). -/
opaque Config.cyclesPerTickLessOne : Nat

/-- CYCLES_PER_TICK, a positive natural (R7, R251). -/
def Config.cyclesPerTick : Nat := Config.cyclesPerTickLessOne + 1

/-- RESET_SYNC: whether reset is synchronous (R230). -/
opaque Config.resetSync : Bool

/-- RESET_ACTIVE_LEVEL: the level at which reset is asserted (R230). -/
opaque Config.resetActiveLevel : Bool

/-- The host address of the register with word index `i`: BASE_ADDRESS plus its byte offset (R7, R50). -/
def Config.hostAddress (i : BitVec 6) : Nat := Config.baseAddress + 4 * i.toNat

end Sys2Proof
end

