-- ==== Sys2Proof/Laws/State.lean ====
section
/-! SUPPORT. One lemma per field per state update, so that no proof unfolds a record update. -/

namespace Sys2Proof.Machine

variable (s : State)

/-! ### ERR -/

@[simp] theorem State.setErr_S (c : ErrCode) : (s.setErr c).S = s.S := rfl
@[simp] theorem State.setErr_W (c : ErrCode) : (s.setErr c).W = s.W := rfl
@[simp] theorem State.setErr_spc (c : ErrCode) : (s.setErr c).spc = s.spc := rfl
@[simp] theorem State.setErr_out (c : ErrCode) : (s.setErr c).out = s.out := rfl
@[simp] theorem State.setErr_busy (c : ErrCode) : (s.setErr c).busy = s.busy := rfl
@[simp] theorem State.setErr_stateValid (c : ErrCode) : (s.setErr c).stateValid = s.stateValid := rfl
@[simp] theorem State.setErr_outValid (c : ErrCode) : (s.setErr c).outValid = s.outValid := rfl
@[simp] theorem State.setErr_ctrWrap (c : ErrCode) : (s.setErr c).ctrWrap = s.ctrWrap := rfl
@[simp] theorem State.setErr_err (c : ErrCode) : (s.setErr c).err = c := rfl
@[simp] theorem State.setErr_key (c : ErrCode) : (s.setErr c).key = s.key := rfl
@[simp] theorem State.setErr_nonce (c : ErrCode) : (s.setErr c).nonce = s.nonce := rfl
@[simp] theorem State.setErr_ctrInLo (c : ErrCode) : (s.setErr c).ctrInLo = s.ctrInLo := rfl
@[simp] theorem State.setErr_ctrInHi (c : ErrCode) : (s.setErr c).ctrInHi = s.ctrInHi := rfl
@[simp] theorem State.setErr_qin (c : ErrCode) : (s.setErr c).qin = s.qin := rfl
@[simp] theorem State.setErr_qout (c : ErrCode) : (s.setErr c).qout = s.qout := rfl
@[simp] theorem State.setErr_hostProgram (c : ErrCode) : (s.setErr c).hostProgram = s.hostProgram := rfl
@[simp] theorem State.setErr_schedule (c : ErrCode) : (s.setErr c).schedule = s.schedule := rfl
@[simp] theorem State.setErr_replies (c : ErrCode) : (s.setErr c).replies = s.replies := rfl

/-! ### an accepted INIT or INIT_CTR -/

@[simp] theorem State.buildMatrix_S (lo hi : Word) : (s.buildMatrix lo hi).S = initialMatrix s.key lo hi s.nonce := rfl
@[simp] theorem State.buildMatrix_W (lo hi : Word) : (s.buildMatrix lo hi).W = s.W := rfl
@[simp] theorem State.buildMatrix_spc (lo hi : Word) : (s.buildMatrix lo hi).spc = s.spc := rfl
@[simp] theorem State.buildMatrix_out (lo hi : Word) : (s.buildMatrix lo hi).out = Vector.replicate 16 0 := rfl
@[simp] theorem State.buildMatrix_busy (lo hi : Word) : (s.buildMatrix lo hi).busy = s.busy := rfl
@[simp] theorem State.buildMatrix_stateValid (lo hi : Word) : (s.buildMatrix lo hi).stateValid = true := rfl
@[simp] theorem State.buildMatrix_outValid (lo hi : Word) : (s.buildMatrix lo hi).outValid = false := rfl
@[simp] theorem State.buildMatrix_ctrWrap (lo hi : Word) : (s.buildMatrix lo hi).ctrWrap = false := rfl
@[simp] theorem State.buildMatrix_err (lo hi : Word) : (s.buildMatrix lo hi).err = s.err := rfl
@[simp] theorem State.buildMatrix_key (lo hi : Word) : (s.buildMatrix lo hi).key = s.key := rfl
@[simp] theorem State.buildMatrix_nonce (lo hi : Word) : (s.buildMatrix lo hi).nonce = s.nonce := rfl
@[simp] theorem State.buildMatrix_ctrInLo (lo hi : Word) : (s.buildMatrix lo hi).ctrInLo = s.ctrInLo := rfl
@[simp] theorem State.buildMatrix_ctrInHi (lo hi : Word) : (s.buildMatrix lo hi).ctrInHi = s.ctrInHi := rfl
@[simp] theorem State.buildMatrix_qin (lo hi : Word) : (s.buildMatrix lo hi).qin = s.qin := rfl
@[simp] theorem State.buildMatrix_qout (lo hi : Word) : (s.buildMatrix lo hi).qout = s.qout := rfl
@[simp] theorem State.buildMatrix_hostProgram (lo hi : Word) : (s.buildMatrix lo hi).hostProgram = s.hostProgram := rfl
@[simp] theorem State.buildMatrix_schedule (lo hi : Word) : (s.buildMatrix lo hi).schedule = s.schedule := rfl
@[simp] theorem State.buildMatrix_replies (lo hi : Word) : (s.buildMatrix lo hi).replies = s.replies := rfl

/-! ### an accepted QR -/

@[simp] theorem State.runMixer_S : (s.runMixer).S = s.S := rfl
@[simp] theorem State.runMixer_W : (s.runMixer).W = s.W := rfl
@[simp] theorem State.runMixer_spc : (s.runMixer).spc = s.spc := rfl
@[simp] theorem State.runMixer_out : (s.runMixer).out = s.out := rfl
@[simp] theorem State.runMixer_busy : (s.runMixer).busy = s.busy := rfl
@[simp] theorem State.runMixer_stateValid : (s.runMixer).stateValid = s.stateValid := rfl
@[simp] theorem State.runMixer_outValid : (s.runMixer).outValid = s.outValid := rfl
@[simp] theorem State.runMixer_ctrWrap : (s.runMixer).ctrWrap = s.ctrWrap := rfl
@[simp] theorem State.runMixer_err : (s.runMixer).err = s.err := rfl
@[simp] theorem State.runMixer_key : (s.runMixer).key = s.key := rfl
@[simp] theorem State.runMixer_nonce : (s.runMixer).nonce = s.nonce := rfl
@[simp] theorem State.runMixer_ctrInLo : (s.runMixer).ctrInLo = s.ctrInLo := rfl
@[simp] theorem State.runMixer_ctrInHi : (s.runMixer).ctrInHi = s.ctrInHi := rfl
@[simp] theorem State.runMixer_qin : (s.runMixer).qin = s.qin := rfl
@[simp] theorem State.runMixer_qout : (s.runMixer).qout = #v[(quarterRound ⟨s.qin[0], s.qin[1], s.qin[2], s.qin[3]⟩).a, (quarterRound ⟨s.qin[0], s.qin[1], s.qin[2], s.qin[3]⟩).b,
      (quarterRound ⟨s.qin[0], s.qin[1], s.qin[2], s.qin[3]⟩).c, (quarterRound ⟨s.qin[0], s.qin[1], s.qin[2], s.qin[3]⟩).d] := rfl
@[simp] theorem State.runMixer_hostProgram : (s.runMixer).hostProgram = s.hostProgram := rfl
@[simp] theorem State.runMixer_schedule : (s.runMixer).schedule = s.schedule := rfl
@[simp] theorem State.runMixer_replies : (s.runMixer).replies = s.replies := rfl

/-! ### an accepted NEXT_BLOCK -/

@[simp] theorem State.startBlock_S : (s.startBlock).S = s.S := rfl
@[simp] theorem State.startBlock_W : (s.startBlock).W = s.S := rfl
@[simp] theorem State.startBlock_spc : (s.startBlock).spc = 0 := rfl
@[simp] theorem State.startBlock_out : (s.startBlock).out = s.out := rfl
@[simp] theorem State.startBlock_busy : (s.startBlock).busy = true := rfl
@[simp] theorem State.startBlock_stateValid : (s.startBlock).stateValid = s.stateValid := rfl
@[simp] theorem State.startBlock_outValid : (s.startBlock).outValid = false := rfl
@[simp] theorem State.startBlock_ctrWrap : (s.startBlock).ctrWrap = s.ctrWrap := rfl
@[simp] theorem State.startBlock_err : (s.startBlock).err = s.err := rfl
@[simp] theorem State.startBlock_key : (s.startBlock).key = s.key := rfl
@[simp] theorem State.startBlock_nonce : (s.startBlock).nonce = s.nonce := rfl
@[simp] theorem State.startBlock_ctrInLo : (s.startBlock).ctrInLo = s.ctrInLo := rfl
@[simp] theorem State.startBlock_ctrInHi : (s.startBlock).ctrInHi = s.ctrInHi := rfl
@[simp] theorem State.startBlock_qin : (s.startBlock).qin = s.qin := rfl
@[simp] theorem State.startBlock_qout : (s.startBlock).qout = s.qout := rfl
@[simp] theorem State.startBlock_hostProgram : (s.startBlock).hostProgram = s.hostProgram := rfl
@[simp] theorem State.startBlock_schedule : (s.startBlock).schedule = s.schedule := rfl
@[simp] theorem State.startBlock_replies : (s.startBlock).replies = s.replies := rfl

/-! ### a quarter-round tick -/

@[simp] theorem State.quarterTick_S (t : Slot) : (s.quarterTick t).S = s.S := rfl
@[simp] theorem State.quarterTick_W (t : Slot) : (s.quarterTick t).W = applySlot t s.W := rfl
@[simp] theorem State.quarterTick_spc (t : Slot) : (s.quarterTick t).spc = s.spc + 1 := rfl
@[simp] theorem State.quarterTick_out (t : Slot) : (s.quarterTick t).out = s.out := rfl
@[simp] theorem State.quarterTick_busy (t : Slot) : (s.quarterTick t).busy = s.busy := rfl
@[simp] theorem State.quarterTick_stateValid (t : Slot) : (s.quarterTick t).stateValid = s.stateValid := rfl
@[simp] theorem State.quarterTick_outValid (t : Slot) : (s.quarterTick t).outValid = s.outValid := rfl
@[simp] theorem State.quarterTick_ctrWrap (t : Slot) : (s.quarterTick t).ctrWrap = s.ctrWrap := rfl
@[simp] theorem State.quarterTick_err (t : Slot) : (s.quarterTick t).err = s.err := rfl
@[simp] theorem State.quarterTick_key (t : Slot) : (s.quarterTick t).key = s.key := rfl
@[simp] theorem State.quarterTick_nonce (t : Slot) : (s.quarterTick t).nonce = s.nonce := rfl
@[simp] theorem State.quarterTick_ctrInLo (t : Slot) : (s.quarterTick t).ctrInLo = s.ctrInLo := rfl
@[simp] theorem State.quarterTick_ctrInHi (t : Slot) : (s.quarterTick t).ctrInHi = s.ctrInHi := rfl
@[simp] theorem State.quarterTick_qin (t : Slot) : (s.quarterTick t).qin = s.qin := rfl
@[simp] theorem State.quarterTick_qout (t : Slot) : (s.quarterTick t).qout = s.qout := rfl
@[simp] theorem State.quarterTick_hostProgram (t : Slot) : (s.quarterTick t).hostProgram = s.hostProgram := rfl
@[simp] theorem State.quarterTick_schedule (t : Slot) : (s.quarterTick t).schedule = s.schedule := rfl
@[simp] theorem State.quarterTick_replies (t : Slot) : (s.quarterTick t).replies = s.replies := rfl

/-! ### the finalize tick -/

@[simp] theorem State.finishBlock_S : (s.finishBlock).S = incrementCounter s.S := rfl
@[simp] theorem State.finishBlock_W : (s.finishBlock).W = s.W := rfl
@[simp] theorem State.finishBlock_spc : (s.finishBlock).spc = 0 := rfl
@[simp] theorem State.finishBlock_out : (s.finishBlock).out = addBack s.W s.S := rfl
@[simp] theorem State.finishBlock_busy : (s.finishBlock).busy = false := rfl
@[simp] theorem State.finishBlock_stateValid : (s.finishBlock).stateValid = s.stateValid := rfl
@[simp] theorem State.finishBlock_outValid : (s.finishBlock).outValid = true := rfl
@[simp] theorem State.finishBlock_ctrWrap : (s.finishBlock).ctrWrap = (s.ctrWrap || counterWraps s.S[12] s.S[13]) := rfl
@[simp] theorem State.finishBlock_err : (s.finishBlock).err = s.err := rfl
@[simp] theorem State.finishBlock_key : (s.finishBlock).key = s.key := rfl
@[simp] theorem State.finishBlock_nonce : (s.finishBlock).nonce = s.nonce := rfl
@[simp] theorem State.finishBlock_ctrInLo : (s.finishBlock).ctrInLo = s.ctrInLo := rfl
@[simp] theorem State.finishBlock_ctrInHi : (s.finishBlock).ctrInHi = s.ctrInHi := rfl
@[simp] theorem State.finishBlock_qin : (s.finishBlock).qin = s.qin := rfl
@[simp] theorem State.finishBlock_qout : (s.finishBlock).qout = s.qout := rfl
@[simp] theorem State.finishBlock_hostProgram : (s.finishBlock).hostProgram = s.hostProgram := rfl
@[simp] theorem State.finishBlock_schedule : (s.finishBlock).schedule = s.schedule := rfl
@[simp] theorem State.finishBlock_replies : (s.finishBlock).replies = s.replies := rfl

/-! ### a write to STATUS -/

@[simp] theorem State.clearWrap_S (v : Word) : (s.clearWrap v).S = s.S := rfl
@[simp] theorem State.clearWrap_W (v : Word) : (s.clearWrap v).W = s.W := rfl
@[simp] theorem State.clearWrap_spc (v : Word) : (s.clearWrap v).spc = s.spc := rfl
@[simp] theorem State.clearWrap_out (v : Word) : (s.clearWrap v).out = s.out := rfl
@[simp] theorem State.clearWrap_busy (v : Word) : (s.clearWrap v).busy = s.busy := rfl
@[simp] theorem State.clearWrap_stateValid (v : Word) : (s.clearWrap v).stateValid = s.stateValid := rfl
@[simp] theorem State.clearWrap_outValid (v : Word) : (s.clearWrap v).outValid = s.outValid := rfl
@[simp] theorem State.clearWrap_ctrWrap (v : Word) : (s.clearWrap v).ctrWrap = (s.ctrWrap && !v.getLsbD 3) := rfl
@[simp] theorem State.clearWrap_err (v : Word) : (s.clearWrap v).err = s.err := rfl
@[simp] theorem State.clearWrap_key (v : Word) : (s.clearWrap v).key = s.key := rfl
@[simp] theorem State.clearWrap_nonce (v : Word) : (s.clearWrap v).nonce = s.nonce := rfl
@[simp] theorem State.clearWrap_ctrInLo (v : Word) : (s.clearWrap v).ctrInLo = s.ctrInLo := rfl
@[simp] theorem State.clearWrap_ctrInHi (v : Word) : (s.clearWrap v).ctrInHi = s.ctrInHi := rfl
@[simp] theorem State.clearWrap_qin (v : Word) : (s.clearWrap v).qin = s.qin := rfl
@[simp] theorem State.clearWrap_qout (v : Word) : (s.clearWrap v).qout = s.qout := rfl
@[simp] theorem State.clearWrap_hostProgram (v : Word) : (s.clearWrap v).hostProgram = s.hostProgram := rfl
@[simp] theorem State.clearWrap_schedule (v : Word) : (s.clearWrap v).schedule = s.schedule := rfl
@[simp] theorem State.clearWrap_replies (v : Word) : (s.clearWrap v).replies = s.replies := rfl

/-! ### a write to KEY -/

@[simp] theorem State.setKey_S (i : Fin 8) (v : Word) : (s.setKey i v).S = s.S := rfl
@[simp] theorem State.setKey_W (i : Fin 8) (v : Word) : (s.setKey i v).W = s.W := rfl
@[simp] theorem State.setKey_spc (i : Fin 8) (v : Word) : (s.setKey i v).spc = s.spc := rfl
@[simp] theorem State.setKey_out (i : Fin 8) (v : Word) : (s.setKey i v).out = s.out := rfl
@[simp] theorem State.setKey_busy (i : Fin 8) (v : Word) : (s.setKey i v).busy = s.busy := rfl
@[simp] theorem State.setKey_stateValid (i : Fin 8) (v : Word) : (s.setKey i v).stateValid = s.stateValid := rfl
@[simp] theorem State.setKey_outValid (i : Fin 8) (v : Word) : (s.setKey i v).outValid = s.outValid := rfl
@[simp] theorem State.setKey_ctrWrap (i : Fin 8) (v : Word) : (s.setKey i v).ctrWrap = s.ctrWrap := rfl
@[simp] theorem State.setKey_err (i : Fin 8) (v : Word) : (s.setKey i v).err = s.err := rfl
@[simp] theorem State.setKey_key (i : Fin 8) (v : Word) : (s.setKey i v).key = s.key.set i v := rfl
@[simp] theorem State.setKey_nonce (i : Fin 8) (v : Word) : (s.setKey i v).nonce = s.nonce := rfl
@[simp] theorem State.setKey_ctrInLo (i : Fin 8) (v : Word) : (s.setKey i v).ctrInLo = s.ctrInLo := rfl
@[simp] theorem State.setKey_ctrInHi (i : Fin 8) (v : Word) : (s.setKey i v).ctrInHi = s.ctrInHi := rfl
@[simp] theorem State.setKey_qin (i : Fin 8) (v : Word) : (s.setKey i v).qin = s.qin := rfl
@[simp] theorem State.setKey_qout (i : Fin 8) (v : Word) : (s.setKey i v).qout = s.qout := rfl
@[simp] theorem State.setKey_hostProgram (i : Fin 8) (v : Word) : (s.setKey i v).hostProgram = s.hostProgram := rfl
@[simp] theorem State.setKey_schedule (i : Fin 8) (v : Word) : (s.setKey i v).schedule = s.schedule := rfl
@[simp] theorem State.setKey_replies (i : Fin 8) (v : Word) : (s.setKey i v).replies = s.replies := rfl

/-! ### a write to NONCE -/

@[simp] theorem State.setNonce_S (j : Fin 2) (v : Word) : (s.setNonce j v).S = s.S := rfl
@[simp] theorem State.setNonce_W (j : Fin 2) (v : Word) : (s.setNonce j v).W = s.W := rfl
@[simp] theorem State.setNonce_spc (j : Fin 2) (v : Word) : (s.setNonce j v).spc = s.spc := rfl
@[simp] theorem State.setNonce_out (j : Fin 2) (v : Word) : (s.setNonce j v).out = s.out := rfl
@[simp] theorem State.setNonce_busy (j : Fin 2) (v : Word) : (s.setNonce j v).busy = s.busy := rfl
@[simp] theorem State.setNonce_stateValid (j : Fin 2) (v : Word) : (s.setNonce j v).stateValid = s.stateValid := rfl
@[simp] theorem State.setNonce_outValid (j : Fin 2) (v : Word) : (s.setNonce j v).outValid = s.outValid := rfl
@[simp] theorem State.setNonce_ctrWrap (j : Fin 2) (v : Word) : (s.setNonce j v).ctrWrap = s.ctrWrap := rfl
@[simp] theorem State.setNonce_err (j : Fin 2) (v : Word) : (s.setNonce j v).err = s.err := rfl
@[simp] theorem State.setNonce_key (j : Fin 2) (v : Word) : (s.setNonce j v).key = s.key := rfl
@[simp] theorem State.setNonce_nonce (j : Fin 2) (v : Word) : (s.setNonce j v).nonce = s.nonce.set j v := rfl
@[simp] theorem State.setNonce_ctrInLo (j : Fin 2) (v : Word) : (s.setNonce j v).ctrInLo = s.ctrInLo := rfl
@[simp] theorem State.setNonce_ctrInHi (j : Fin 2) (v : Word) : (s.setNonce j v).ctrInHi = s.ctrInHi := rfl
@[simp] theorem State.setNonce_qin (j : Fin 2) (v : Word) : (s.setNonce j v).qin = s.qin := rfl
@[simp] theorem State.setNonce_qout (j : Fin 2) (v : Word) : (s.setNonce j v).qout = s.qout := rfl
@[simp] theorem State.setNonce_hostProgram (j : Fin 2) (v : Word) : (s.setNonce j v).hostProgram = s.hostProgram := rfl
@[simp] theorem State.setNonce_schedule (j : Fin 2) (v : Word) : (s.setNonce j v).schedule = s.schedule := rfl
@[simp] theorem State.setNonce_replies (j : Fin 2) (v : Word) : (s.setNonce j v).replies = s.replies := rfl

/-! ### a write to CTR_IN_LO -/

@[simp] theorem State.setCtrInLo_S (v : Word) : (s.setCtrInLo v).S = s.S := rfl
@[simp] theorem State.setCtrInLo_W (v : Word) : (s.setCtrInLo v).W = s.W := rfl
@[simp] theorem State.setCtrInLo_spc (v : Word) : (s.setCtrInLo v).spc = s.spc := rfl
@[simp] theorem State.setCtrInLo_out (v : Word) : (s.setCtrInLo v).out = s.out := rfl
@[simp] theorem State.setCtrInLo_busy (v : Word) : (s.setCtrInLo v).busy = s.busy := rfl
@[simp] theorem State.setCtrInLo_stateValid (v : Word) : (s.setCtrInLo v).stateValid = s.stateValid := rfl
@[simp] theorem State.setCtrInLo_outValid (v : Word) : (s.setCtrInLo v).outValid = s.outValid := rfl
@[simp] theorem State.setCtrInLo_ctrWrap (v : Word) : (s.setCtrInLo v).ctrWrap = s.ctrWrap := rfl
@[simp] theorem State.setCtrInLo_err (v : Word) : (s.setCtrInLo v).err = s.err := rfl
@[simp] theorem State.setCtrInLo_key (v : Word) : (s.setCtrInLo v).key = s.key := rfl
@[simp] theorem State.setCtrInLo_nonce (v : Word) : (s.setCtrInLo v).nonce = s.nonce := rfl
@[simp] theorem State.setCtrInLo_ctrInLo (v : Word) : (s.setCtrInLo v).ctrInLo = v := rfl
@[simp] theorem State.setCtrInLo_ctrInHi (v : Word) : (s.setCtrInLo v).ctrInHi = s.ctrInHi := rfl
@[simp] theorem State.setCtrInLo_qin (v : Word) : (s.setCtrInLo v).qin = s.qin := rfl
@[simp] theorem State.setCtrInLo_qout (v : Word) : (s.setCtrInLo v).qout = s.qout := rfl
@[simp] theorem State.setCtrInLo_hostProgram (v : Word) : (s.setCtrInLo v).hostProgram = s.hostProgram := rfl
@[simp] theorem State.setCtrInLo_schedule (v : Word) : (s.setCtrInLo v).schedule = s.schedule := rfl
@[simp] theorem State.setCtrInLo_replies (v : Word) : (s.setCtrInLo v).replies = s.replies := rfl

/-! ### a write to CTR_IN_HI -/

@[simp] theorem State.setCtrInHi_S (v : Word) : (s.setCtrInHi v).S = s.S := rfl
@[simp] theorem State.setCtrInHi_W (v : Word) : (s.setCtrInHi v).W = s.W := rfl
@[simp] theorem State.setCtrInHi_spc (v : Word) : (s.setCtrInHi v).spc = s.spc := rfl
@[simp] theorem State.setCtrInHi_out (v : Word) : (s.setCtrInHi v).out = s.out := rfl
@[simp] theorem State.setCtrInHi_busy (v : Word) : (s.setCtrInHi v).busy = s.busy := rfl
@[simp] theorem State.setCtrInHi_stateValid (v : Word) : (s.setCtrInHi v).stateValid = s.stateValid := rfl
@[simp] theorem State.setCtrInHi_outValid (v : Word) : (s.setCtrInHi v).outValid = s.outValid := rfl
@[simp] theorem State.setCtrInHi_ctrWrap (v : Word) : (s.setCtrInHi v).ctrWrap = s.ctrWrap := rfl
@[simp] theorem State.setCtrInHi_err (v : Word) : (s.setCtrInHi v).err = s.err := rfl
@[simp] theorem State.setCtrInHi_key (v : Word) : (s.setCtrInHi v).key = s.key := rfl
@[simp] theorem State.setCtrInHi_nonce (v : Word) : (s.setCtrInHi v).nonce = s.nonce := rfl
@[simp] theorem State.setCtrInHi_ctrInLo (v : Word) : (s.setCtrInHi v).ctrInLo = s.ctrInLo := rfl
@[simp] theorem State.setCtrInHi_ctrInHi (v : Word) : (s.setCtrInHi v).ctrInHi = v := rfl
@[simp] theorem State.setCtrInHi_qin (v : Word) : (s.setCtrInHi v).qin = s.qin := rfl
@[simp] theorem State.setCtrInHi_qout (v : Word) : (s.setCtrInHi v).qout = s.qout := rfl
@[simp] theorem State.setCtrInHi_hostProgram (v : Word) : (s.setCtrInHi v).hostProgram = s.hostProgram := rfl
@[simp] theorem State.setCtrInHi_schedule (v : Word) : (s.setCtrInHi v).schedule = s.schedule := rfl
@[simp] theorem State.setCtrInHi_replies (v : Word) : (s.setCtrInHi v).replies = s.replies := rfl

/-! ### a write to QIN -/

@[simp] theorem State.setQin_S (j : Fin 4) (v : Word) : (s.setQin j v).S = s.S := rfl
@[simp] theorem State.setQin_W (j : Fin 4) (v : Word) : (s.setQin j v).W = s.W := rfl
@[simp] theorem State.setQin_spc (j : Fin 4) (v : Word) : (s.setQin j v).spc = s.spc := rfl
@[simp] theorem State.setQin_out (j : Fin 4) (v : Word) : (s.setQin j v).out = s.out := rfl
@[simp] theorem State.setQin_busy (j : Fin 4) (v : Word) : (s.setQin j v).busy = s.busy := rfl
@[simp] theorem State.setQin_stateValid (j : Fin 4) (v : Word) : (s.setQin j v).stateValid = s.stateValid := rfl
@[simp] theorem State.setQin_outValid (j : Fin 4) (v : Word) : (s.setQin j v).outValid = s.outValid := rfl
@[simp] theorem State.setQin_ctrWrap (j : Fin 4) (v : Word) : (s.setQin j v).ctrWrap = s.ctrWrap := rfl
@[simp] theorem State.setQin_err (j : Fin 4) (v : Word) : (s.setQin j v).err = s.err := rfl
@[simp] theorem State.setQin_key (j : Fin 4) (v : Word) : (s.setQin j v).key = s.key := rfl
@[simp] theorem State.setQin_nonce (j : Fin 4) (v : Word) : (s.setQin j v).nonce = s.nonce := rfl
@[simp] theorem State.setQin_ctrInLo (j : Fin 4) (v : Word) : (s.setQin j v).ctrInLo = s.ctrInLo := rfl
@[simp] theorem State.setQin_ctrInHi (j : Fin 4) (v : Word) : (s.setQin j v).ctrInHi = s.ctrInHi := rfl
@[simp] theorem State.setQin_qin (j : Fin 4) (v : Word) : (s.setQin j v).qin = s.qin.set j v := rfl
@[simp] theorem State.setQin_qout (j : Fin 4) (v : Word) : (s.setQin j v).qout = s.qout := rfl
@[simp] theorem State.setQin_hostProgram (j : Fin 4) (v : Word) : (s.setQin j v).hostProgram = s.hostProgram := rfl
@[simp] theorem State.setQin_schedule (j : Fin 4) (v : Word) : (s.setQin j v).schedule = s.schedule := rfl
@[simp] theorem State.setQin_replies (j : Fin 4) (v : Word) : (s.setQin j v).replies = s.replies := rfl

/-! ### a reply to the host -/

@[simp] theorem State.pushReply_S (v : Word) : (s.pushReply v).S = s.S := rfl
@[simp] theorem State.pushReply_W (v : Word) : (s.pushReply v).W = s.W := rfl
@[simp] theorem State.pushReply_spc (v : Word) : (s.pushReply v).spc = s.spc := rfl
@[simp] theorem State.pushReply_out (v : Word) : (s.pushReply v).out = s.out := rfl
@[simp] theorem State.pushReply_busy (v : Word) : (s.pushReply v).busy = s.busy := rfl
@[simp] theorem State.pushReply_stateValid (v : Word) : (s.pushReply v).stateValid = s.stateValid := rfl
@[simp] theorem State.pushReply_outValid (v : Word) : (s.pushReply v).outValid = s.outValid := rfl
@[simp] theorem State.pushReply_ctrWrap (v : Word) : (s.pushReply v).ctrWrap = s.ctrWrap := rfl
@[simp] theorem State.pushReply_err (v : Word) : (s.pushReply v).err = s.err := rfl
@[simp] theorem State.pushReply_key (v : Word) : (s.pushReply v).key = s.key := rfl
@[simp] theorem State.pushReply_nonce (v : Word) : (s.pushReply v).nonce = s.nonce := rfl
@[simp] theorem State.pushReply_ctrInLo (v : Word) : (s.pushReply v).ctrInLo = s.ctrInLo := rfl
@[simp] theorem State.pushReply_ctrInHi (v : Word) : (s.pushReply v).ctrInHi = s.ctrInHi := rfl
@[simp] theorem State.pushReply_qin (v : Word) : (s.pushReply v).qin = s.qin := rfl
@[simp] theorem State.pushReply_qout (v : Word) : (s.pushReply v).qout = s.qout := rfl
@[simp] theorem State.pushReply_hostProgram (v : Word) : (s.pushReply v).hostProgram = s.hostProgram := rfl
@[simp] theorem State.pushReply_schedule (v : Word) : (s.pushReply v).schedule = s.schedule := rfl
@[simp] theorem State.pushReply_replies (v : Word) : (s.pushReply v).replies = v :: s.replies := rfl

/-! ### an action put back -/

@[simp] theorem State.pushAction_S (a : HostAction) : (s.pushAction a).S = s.S := rfl
@[simp] theorem State.pushAction_W (a : HostAction) : (s.pushAction a).W = s.W := rfl
@[simp] theorem State.pushAction_spc (a : HostAction) : (s.pushAction a).spc = s.spc := rfl
@[simp] theorem State.pushAction_out (a : HostAction) : (s.pushAction a).out = s.out := rfl
@[simp] theorem State.pushAction_busy (a : HostAction) : (s.pushAction a).busy = s.busy := rfl
@[simp] theorem State.pushAction_stateValid (a : HostAction) : (s.pushAction a).stateValid = s.stateValid := rfl
@[simp] theorem State.pushAction_outValid (a : HostAction) : (s.pushAction a).outValid = s.outValid := rfl
@[simp] theorem State.pushAction_ctrWrap (a : HostAction) : (s.pushAction a).ctrWrap = s.ctrWrap := rfl
@[simp] theorem State.pushAction_err (a : HostAction) : (s.pushAction a).err = s.err := rfl
@[simp] theorem State.pushAction_key (a : HostAction) : (s.pushAction a).key = s.key := rfl
@[simp] theorem State.pushAction_nonce (a : HostAction) : (s.pushAction a).nonce = s.nonce := rfl
@[simp] theorem State.pushAction_ctrInLo (a : HostAction) : (s.pushAction a).ctrInLo = s.ctrInLo := rfl
@[simp] theorem State.pushAction_ctrInHi (a : HostAction) : (s.pushAction a).ctrInHi = s.ctrInHi := rfl
@[simp] theorem State.pushAction_qin (a : HostAction) : (s.pushAction a).qin = s.qin := rfl
@[simp] theorem State.pushAction_qout (a : HostAction) : (s.pushAction a).qout = s.qout := rfl
@[simp] theorem State.pushAction_hostProgram (a : HostAction) : (s.pushAction a).hostProgram = a :: s.hostProgram := rfl
@[simp] theorem State.pushAction_schedule (a : HostAction) : (s.pushAction a).schedule = s.schedule := rfl
@[simp] theorem State.pushAction_replies (a : HostAction) : (s.pushAction a).replies = s.replies := rfl

/-! ### the host's program -/

@[simp] theorem State.setProgram_S (p : List HostAction) : (s.setProgram p).S = s.S := rfl
@[simp] theorem State.setProgram_W (p : List HostAction) : (s.setProgram p).W = s.W := rfl
@[simp] theorem State.setProgram_spc (p : List HostAction) : (s.setProgram p).spc = s.spc := rfl
@[simp] theorem State.setProgram_out (p : List HostAction) : (s.setProgram p).out = s.out := rfl
@[simp] theorem State.setProgram_busy (p : List HostAction) : (s.setProgram p).busy = s.busy := rfl
@[simp] theorem State.setProgram_stateValid (p : List HostAction) : (s.setProgram p).stateValid = s.stateValid := rfl
@[simp] theorem State.setProgram_outValid (p : List HostAction) : (s.setProgram p).outValid = s.outValid := rfl
@[simp] theorem State.setProgram_ctrWrap (p : List HostAction) : (s.setProgram p).ctrWrap = s.ctrWrap := rfl
@[simp] theorem State.setProgram_err (p : List HostAction) : (s.setProgram p).err = s.err := rfl
@[simp] theorem State.setProgram_key (p : List HostAction) : (s.setProgram p).key = s.key := rfl
@[simp] theorem State.setProgram_nonce (p : List HostAction) : (s.setProgram p).nonce = s.nonce := rfl
@[simp] theorem State.setProgram_ctrInLo (p : List HostAction) : (s.setProgram p).ctrInLo = s.ctrInLo := rfl
@[simp] theorem State.setProgram_ctrInHi (p : List HostAction) : (s.setProgram p).ctrInHi = s.ctrInHi := rfl
@[simp] theorem State.setProgram_qin (p : List HostAction) : (s.setProgram p).qin = s.qin := rfl
@[simp] theorem State.setProgram_qout (p : List HostAction) : (s.setProgram p).qout = s.qout := rfl
@[simp] theorem State.setProgram_hostProgram (p : List HostAction) : (s.setProgram p).hostProgram = p := rfl
@[simp] theorem State.setProgram_schedule (p : List HostAction) : (s.setProgram p).schedule = s.schedule := rfl
@[simp] theorem State.setProgram_replies (p : List HostAction) : (s.setProgram p).replies = s.replies := rfl

/-! ### the schedule -/

@[simp] theorem State.setSchedule_S (l : List Agent) : (s.setSchedule l).S = s.S := rfl
@[simp] theorem State.setSchedule_W (l : List Agent) : (s.setSchedule l).W = s.W := rfl
@[simp] theorem State.setSchedule_spc (l : List Agent) : (s.setSchedule l).spc = s.spc := rfl
@[simp] theorem State.setSchedule_out (l : List Agent) : (s.setSchedule l).out = s.out := rfl
@[simp] theorem State.setSchedule_busy (l : List Agent) : (s.setSchedule l).busy = s.busy := rfl
@[simp] theorem State.setSchedule_stateValid (l : List Agent) : (s.setSchedule l).stateValid = s.stateValid := rfl
@[simp] theorem State.setSchedule_outValid (l : List Agent) : (s.setSchedule l).outValid = s.outValid := rfl
@[simp] theorem State.setSchedule_ctrWrap (l : List Agent) : (s.setSchedule l).ctrWrap = s.ctrWrap := rfl
@[simp] theorem State.setSchedule_err (l : List Agent) : (s.setSchedule l).err = s.err := rfl
@[simp] theorem State.setSchedule_key (l : List Agent) : (s.setSchedule l).key = s.key := rfl
@[simp] theorem State.setSchedule_nonce (l : List Agent) : (s.setSchedule l).nonce = s.nonce := rfl
@[simp] theorem State.setSchedule_ctrInLo (l : List Agent) : (s.setSchedule l).ctrInLo = s.ctrInLo := rfl
@[simp] theorem State.setSchedule_ctrInHi (l : List Agent) : (s.setSchedule l).ctrInHi = s.ctrInHi := rfl
@[simp] theorem State.setSchedule_qin (l : List Agent) : (s.setSchedule l).qin = s.qin := rfl
@[simp] theorem State.setSchedule_qout (l : List Agent) : (s.setSchedule l).qout = s.qout := rfl
@[simp] theorem State.setSchedule_hostProgram (l : List Agent) : (s.setSchedule l).hostProgram = s.hostProgram := rfl
@[simp] theorem State.setSchedule_schedule (l : List Agent) : (s.setSchedule l).schedule = l := rfl
@[simp] theorem State.setSchedule_replies (l : List Agent) : (s.setSchedule l).replies = s.replies := rfl

/-! ### reset -/

@[simp] theorem State.resetRegisters_S : (s.resetRegisters).S = State.reset.S := rfl
@[simp] theorem State.resetRegisters_W : (s.resetRegisters).W = State.reset.W := rfl
@[simp] theorem State.resetRegisters_spc : (s.resetRegisters).spc = State.reset.spc := rfl
@[simp] theorem State.resetRegisters_out : (s.resetRegisters).out = State.reset.out := rfl
@[simp] theorem State.resetRegisters_busy : (s.resetRegisters).busy = State.reset.busy := rfl
@[simp] theorem State.resetRegisters_stateValid : (s.resetRegisters).stateValid = State.reset.stateValid := rfl
@[simp] theorem State.resetRegisters_outValid : (s.resetRegisters).outValid = State.reset.outValid := rfl
@[simp] theorem State.resetRegisters_ctrWrap : (s.resetRegisters).ctrWrap = State.reset.ctrWrap := rfl
@[simp] theorem State.resetRegisters_err : (s.resetRegisters).err = State.reset.err := rfl
@[simp] theorem State.resetRegisters_key : (s.resetRegisters).key = State.reset.key := rfl
@[simp] theorem State.resetRegisters_nonce : (s.resetRegisters).nonce = State.reset.nonce := rfl
@[simp] theorem State.resetRegisters_ctrInLo : (s.resetRegisters).ctrInLo = State.reset.ctrInLo := rfl
@[simp] theorem State.resetRegisters_ctrInHi : (s.resetRegisters).ctrInHi = State.reset.ctrInHi := rfl
@[simp] theorem State.resetRegisters_qin : (s.resetRegisters).qin = State.reset.qin := rfl
@[simp] theorem State.resetRegisters_qout : (s.resetRegisters).qout = State.reset.qout := rfl
@[simp] theorem State.resetRegisters_hostProgram : (s.resetRegisters).hostProgram = s.hostProgram := rfl
@[simp] theorem State.resetRegisters_schedule : (s.resetRegisters).schedule = s.schedule := rfl
@[simp] theorem State.resetRegisters_replies : (s.resetRegisters).replies = s.replies := rfl

end Sys2Proof.Machine
end

