-- ==== Sys2Proof/Laws/Ops.lean ====
section
/-! SUPPORT. What each shared operation can do, once. -/

namespace Sys2Proof.Machine

variable {s t : State}

/-- A rejection answers a next state that differs in ERR only (R203). -/
@[simp] theorem raise_eq (c : ErrCode) (s : State) : raise c s = .next (s.setErr c) := rfl

@[simp] theorem accept_eq (s : State) : accept s = .next (s.setErr .ok) := rfl

theorem whileIdle_idle (h : s.busy = false) (k : Result) : whileIdle s k = k := by simp [whileIdle, h]

theorem whileIdle_busy (h : s.busy = true) (k : Result) : whileIdle s k = .next (s.setErr .busy) := by
  simp [whileIdle, h]

/-- Everything the BUSY check can do. -/
theorem whileIdle_next {k : Result} (h : whileIdle s k = .next t) :
    (s.busy = true ∧ t = s.setErr .busy) ∨ (s.busy = false ∧ k = .next t) := by
  cases hb : s.busy
  · exact .inr ⟨rfl, by rwa [whileIdle_idle hb] at h⟩
  · rw [whileIdle_busy hb] at h
    exact .inl ⟨rfl, by cases h; rfl⟩

theorem microStep_on (s' : State) : microStep true s' = .next s' := rfl

theorem microStep_off (s' : State) : microStep false s' = .fault .stepNotSelected := rfl

/-- A micro-step that answers a next state was enabled. -/
theorem microStep_next {en : Bool} {s' : State} (h : microStep en s' = .next t) : en = true ∧ t = s' := by
  cases en
  · cases h
  · cases h; exact ⟨rfl, rfl⟩

theorem atStep_iff (n : BitVec 7) : s.atStep n = true ↔ s.busy = true ∧ s.spc = n := by
  simp [State.atStep]

@[simp] theorem andThen_next (s : State) (k : State → Result) : andThen (.next s) k = k s := rfl

/-- A sequence that answers a next state went through one. -/
theorem andThen_eq_next {r : Result} {k : State → Result} (h : andThen r k = .next t) :
    ∃ u, r = .next u ∧ k u = .next t := by
  cases r with
  | next u => exact ⟨u, rfl, h⟩
  | fault f => cases h
  | refused f => cases h

@[simp] theorem steps_zero (s : State) : steps 0 s = .next s := rfl

theorem steps_succ (n : Nat) (s : State) : steps (n + 1) s = andThen (step s) (steps n) := rfl

@[simp] theorem ticks_zero (s : State) : ticks 0 s = .next s := rfl

theorem ticks_succ (n : Nat) (s : State) : ticks (n + 1) s = andThen (sequencerTurn s) (ticks n) := rfl

/-- An invariant that every step keeps holds after any number of steps. -/
theorem steps_keep {P : State → Prop} (hstep : ∀ s t, P s → step s = .next t → P t) :
    ∀ n {s t}, P s → steps n s = .next t → P t
  | 0, _, _, hp, h => by cases h; exact hp
  | n + 1, _, _, hp, h => by
    obtain ⟨u, hu, hr⟩ := andThen_eq_next (steps_succ n _ ▸ h)
    exact steps_keep hstep n (hstep _ _ hp hu) hr

end Sys2Proof.Machine
end

