-- ==== Sys2Proof/Laws/Exec.lean ====
section
/-! SUPPORT. Everything an instruction, a host action and a step can do: inversion lemmas that later proofs cite
instead of unfolding exec, hostAct and step. -/

namespace Sys2Proof.Machine

variable {s t : State}

/-- The instruction is one of the five commands written to CMD. -/
def isCommand : Instr → Bool
  | .nop | .init _ _ | .initCtr _ _ | .nextBlock | .qr => true
  | .qrCol0 _ | .qrCol1 _ | .qrCol2 _ | .qrCol3 _ | .qrDiag0 _ | .qrDiag1 _ | .qrDiag2 _ | .qrDiag3 _ => false
  | .finalize => false

/-- What the instruction `i` can do to the state `s` when it answers a next state: a command is rejected or has its
whole effect while BUSY = 0, a micro-step its own while BUSY = 1. -/
inductive Effect (i : Instr) (s : State) : State → Prop where
  | rejected (hi : isCommand i = true) (c : ErrCode) (hc : c ≠ .ok) : Effect i s (s.setErr c)
  | nop (hi : i = .nop) (hb : s.busy = false) : Effect i s (s.setErr .ok)
  | built (hi : ∃ k n, i = .init k n ∨ i = .initCtr k n) (hb : s.busy = false) (lo hi' : Word) :
      Effect i s ((s.buildMatrix lo hi').setErr .ok)
  | started (hi : i = .nextBlock) (hb : s.busy = false) (hv : s.stateValid = true) :
      Effect i s (s.startBlock.setErr .ok)
  | mixed (hi : i = .qr) (hb : s.busy = false) : Effect i s (s.runMixer.setErr .ok)
  | ticked (hi : isCommand i = false) (hf : i ≠ .finalize) (hb : s.busy = true) (hlt : s.spc < 80#7) :
      Effect i s (s.quarterTick (slotAt s.spc.toNat))
  | finished (hi : i = .finalize) (hb : s.busy = true) (h80 : s.spc = 80#7) : Effect i s s.finishBlock

theorem initialize64_next {k n : BitVec 8} {lo hi : Word} (h : initialize64 k n lo hi s = .next t) :
    (∃ c, c ≠ .ok ∧ t = s.setErr c) ∨ t = (s.buildMatrix lo hi).setErr .ok := by
  unfold initialize64 lengthError at h
  split_ifs at h <;> cases h
  · exact .inl ⟨.invalidKeyLength, by decide, rfl⟩
  · exact .inl ⟨.invalidNonceLength, by decide, rfl⟩
  · exact .inr rfl

/-- The slot named by the low three bits of spc is the one `slotAt` gives. -/
theorem slotAt_append (r : BitVec 4) (q : BitVec 3) : slotAt (r ++ q : BitVec 7).toNat = slotAt q.toNat := by
  have h : ((r ++ q : BitVec 7).toNat) % 8 = q.toNat % 8 := by
    rw [BitVec.toNat_append, Nat.shiftLeft_eq, Nat.mul_comm, ← Nat.two_pow_add_eq_or_of_lt q.isLt]
    omega
  unfold slotAt
  rw [h]

theorem quarterRoundTick_next {i : Instr} {q : BitVec 3} {sl : Slot} {r : BitVec 4} (hs : slotAt q.toNat = sl)
    (hi : isCommand i = false) (hf : i ≠ .finalize) (h : quarterRoundTick q sl r s = .next t) : Effect i s t := by
  obtain ⟨he, rfl⟩ := microStep_next h
  obtain ⟨ha, hlt⟩ : s.atStep (r ++ q) = true ∧ s.spc < 80#7 := by simpa using he
  obtain ⟨hb, hspc⟩ := (atStep_iff _).1 ha
  rw [← hs, ← slotAt_append r, ← hspc]
  exact .ticked hi hf hb hlt

/-- Everything an instruction can do when it answers a next state. -/
theorem exec_effect {i : Instr} (h : exec i s = .next t) : Effect i s t := by
  cases i with
  | nop =>
    obtain ⟨_, rfl⟩ | ⟨hb, h⟩ := whileIdle_next h
    · exact .rejected rfl _ (by decide)
    · cases h; exact .nop rfl hb
  | init k n =>
    obtain ⟨_, rfl⟩ | ⟨hb, h⟩ := whileIdle_next h
    · exact .rejected rfl _ (by decide)
    · obtain ⟨c, hc, rfl⟩ | rfl := initialize64_next h
      · exact .rejected rfl c hc
      · exact .built ⟨k, n, .inl rfl⟩ hb _ _
  | initCtr k n =>
    obtain ⟨_, rfl⟩ | ⟨hb, h⟩ := whileIdle_next h
    · exact .rejected rfl _ (by decide)
    · obtain ⟨c, hc, rfl⟩ | rfl := initialize64_next h
      · exact .rejected rfl c hc
      · exact .built ⟨k, n, .inr rfl⟩ hb _ _
  | nextBlock =>
    obtain ⟨_, rfl⟩ | ⟨hb, h⟩ := whileIdle_next h
    · exact .rejected rfl _ (by decide)
    · cases hv : s.stateValid <;> simp only [hv] at h <;> cases h
      · exact .rejected rfl _ (by decide)
      · exact .started rfl hb hv
  | qr =>
    obtain ⟨_, rfl⟩ | ⟨hb, h⟩ := whileIdle_next h
    · exact .rejected rfl _ (by decide)
    · cases h; exact .mixed rfl hb
  | qrCol0 r => exact quarterRoundTick_next rfl rfl (fun hf => by cases hf) h
  | qrCol1 r => exact quarterRoundTick_next rfl rfl (fun hf => by cases hf) h
  | qrCol2 r => exact quarterRoundTick_next rfl rfl (fun hf => by cases hf) h
  | qrCol3 r => exact quarterRoundTick_next rfl rfl (fun hf => by cases hf) h
  | qrDiag0 r => exact quarterRoundTick_next rfl rfl (fun hf => by cases hf) h
  | qrDiag1 r => exact quarterRoundTick_next rfl rfl (fun hf => by cases hf) h
  | qrDiag2 r => exact quarterRoundTick_next rfl rfl (fun hf => by cases hf) h
  | qrDiag3 r => exact quarterRoundTick_next rfl rfl (fun hf => by cases hf) h
  | finalize =>
    obtain ⟨he, rfl⟩ := microStep_next h
    obtain ⟨hb, h80⟩ := (atStep_iff _).1 he
    exact .finished rfl hb h80

/-- A command word decodes to a command only. -/
theorem decodeCmd_isCommand {v : Word} {i : Instr} (h : decodeCmd v = .ok i) : isCommand i = true := by
  unfold decodeCmd at h
  split_ifs at h
  cases h
  unfold selectCommand
  split_ifs <;> rfl

/-- A command always answers a next state. -/
theorem exec_command {i : Instr} (h : isCommand i = true) (s : State) : ∃ t, exec i s = .next t := by
  cases i <;> try cases h
  all_goals
    simp only [exec, execNop, execInit, execInitCtr, execNextBlock, execQr, whileIdle, initialize64, accept, raise]
    repeat' split
    all_goals exact ⟨_, rfl⟩

/-- Everything the dispatch of a command word can do: it always answers a next state. -/
theorem dispatchCommand_cases (v : Word) (s : State) :
    ∃ t, dispatchCommand v s = .next t ∧
      ((∃ i, decodeCmd v = .ok i ∧ isCommand i = true ∧ exec i s = .next t ∧ Effect i s t) ∨
       ((∀ i, decodeCmd v ≠ .ok i) ∧ ∃ c, c ≠ .ok ∧ t = s.setErr c)) := by
  unfold dispatchCommand
  cases hd : decodeCmd v with
  | ok i =>
    obtain ⟨t, ht⟩ := exec_command (decodeCmd_isCommand hd) s
    exact ⟨t, ht, .inl ⟨i, rfl, decodeCmd_isCommand hd, ht, exec_effect ht⟩⟩
  | error why =>
    cases hb : s.busy
    · exact ⟨_, whileIdle_idle hb _, .inr ⟨fun _ h => (by cases h), rejectCode why, (by cases why <;> decide), rfl⟩⟩
    · exact ⟨_, whileIdle_busy hb _, .inr ⟨fun _ h => (by cases h), .busy, (by decide), rfl⟩⟩

/-- Everything a host action can do when it answers a next state. -/
theorem hostAct_cases {a : HostAction} (h : hostAct a s = .next t) :
    (∃ v, t = s.pushReply v) ∨ (∃ v i m w, t = (s.pushReply v).pushAction (.poll i m w)) ∨
    (∃ i v, a = .write i v ∧ regAt i = .cmd ∧ dispatchCommand v s = .next t) ∨
    (∃ i v, a = .write i v ∧ regAt i ≠ .cmd ∧ t = writeReg (regAt i) v s) ∨ (a = .reset ∧ t = s.resetRegisters) := by
  cases a with
  | read i => cases h; exact .inl ⟨_, rfl⟩
  | write i v =>
    simp only [hostAct, busWrite] at h
    split at h
    · rename_i hc; exact .inr (.inr (.inl ⟨i, v, rfl, hc, h⟩))
    · rename_i hc; cases h; exact .inr (.inr (.inr (.inl ⟨i, v, rfl, hc, rfl⟩)))
  | poll i m v =>
    simp only [hostAct] at h
    split at h <;> cases h
    · exact .inl ⟨_, rfl⟩
    · exact .inr (.inl ⟨_, _, _, _, rfl⟩)
  | reset => cases h; exact .inr (.inr (.inr (.inr ⟨rfl, rfl⟩)))

/-- Everything a write to a register other than CMD can do (R53, R55). -/
theorem writeReg_cases (r : Reg) (v : Word) (s : State) :
    writeReg r v s = s ∨ writeReg r v s = s.clearWrap v ∨ (∃ i, writeReg r v s = s.setKey i v) ∨
    (∃ j, writeReg r v s = s.setNonce j v) ∨ writeReg r v s = s.setCtrInLo v ∨
    writeReg r v s = s.setCtrInHi v ∨ (∃ j, writeReg r v s = s.setQin j v) := by
  cases r with
  | status => exact .inr (.inl rfl)
  | key i => exact .inr (.inr (.inl ⟨i, rfl⟩))
  | nonce j => exact .inr (.inr (.inr (.inl ⟨j, rfl⟩)))
  | ctrInLo => exact .inr (.inr (.inr (.inr (.inl rfl))))
  | ctrInHi => exact .inr (.inr (.inr (.inr (.inr (.inl rfl)))))
  | qin j => exact .inr (.inr (.inr (.inr (.inr (.inr ⟨j, rfl⟩)))))
  | _ => exact .inl rfl

/-- A step is one agent's turn: the scheduled one, or the default one where the schedule is empty. -/
theorem step_cases (h : step s = .next t) :
    (s.schedule = [] ∧ agentTurn (defaultAgent s) s = .next t) ∨
    (∃ a rest, s.schedule = a :: rest ∧ agentTurn a (s.setSchedule rest) = .next t) := by
  unfold step nextTurn at h
  split at h
  · exact .inl ⟨by assumption, h⟩
  · exact .inr ⟨_, _, by assumption, h⟩

/-- Everything the host's turn can do. -/
theorem hostTurn_cases (h : hostTurn s = .next t) :
    (s.hostProgram = [] ∧ t = s) ∨ (∃ a rest, s.hostProgram = a :: rest ∧ hostAct a (s.setProgram rest) = .next t) := by
  unfold hostTurn at h
  split at h
  · cases h; exact .inl ⟨by assumption, rfl⟩
  · exact .inr ⟨_, _, by assumption, h⟩

/-- Everything the sequencer's turn can do. -/
theorem sequencerTurn_cases (h : sequencerTurn s = .next t) :
    (s.busy = false ∧ t = s) ∨ (s.busy = true ∧ ∃ i, decodeSeq s.spc = .ok i ∧ exec i s = .next t) := by
  cases hb : s.busy
  · rw [sequencerTurn, hb] at h
    cases h; exact .inl ⟨rfl, rfl⟩
  · rw [sequencerTurn, if_pos hb] at h
    split at h
    · exact .inr ⟨rfl, _, by assumption, h⟩
    · cases h

end Sys2Proof.Machine
end

