-- ==== Sys2Proof/Laws/PerInstr.lean ====
section
/-! SUPPORT. The per-instruction family TableRow: every well-formed instruction's code has the fixed bits that its row of
spec/opcode_table.json gives it. -/

namespace Sys2Proof.Laws

/-- The code agrees with `value` on the bits of `mask`. -/
def fixedBits (mask value : Nat) : Code → Prop
  | .cmd w => w &&& BitVec.ofNat 32 mask = BitVec.ofNat 32 value
  | .seq n => n &&& BitVec.ofNat 7 mask = BitVec.ofNat 7 value

/-- A row's mask and match, from spec/opcode_table.json. -/
def tableRow : Instr → Nat × Nat
  | .nop => (0xFFFFFFFF, 0x00000000)
  | .init _ _ => (0xFF0000FF, 0x00000001)
  | .initCtr _ _ => (0xFF0000FF, 0x00000002)
  | .nextBlock => (0xFFFFFFFF, 0x00000003)
  | .qr => (0xFFFFFFFF, 0x00000004)
  | .qrCol0 _ => (0x07, 0x00)
  | .qrCol1 _ => (0x07, 0x01)
  | .qrCol2 _ => (0x07, 0x02)
  | .qrCol3 _ => (0x07, 0x03)
  | .qrDiag0 _ => (0x07, 0x04)
  | .qrDiag1 _ => (0x07, 0x05)
  | .qrDiag2 _ => (0x07, 0x06)
  | .qrDiag3 _ => (0x07, 0x07)
  | .finalize => (0x7F, 0x50)

/-- The code of `i` has the fixed bits of its table row. -/
def TableRow.Statement (i : Instr) : Prop :=
  i.wellFormed = true → fixedBits (tableRow i).1 (tableRow i).2 (encode i)

/-- KLEN and NLEN lie outside the fixed bits of INIT and INIT_CTR. -/
theorem lengthsWord_fixed (op : BitVec 4) (k n : BitVec 8) :
    lengthsWord op k n &&& 0xFF0000FF#32 = op.zeroExtend 32 := by
  apply BitVec.eq_of_getLsbD_eq
  intro i hi
  simp only [lengthsWord, BitVec.getLsbD_and, BitVec.getLsbD_append, BitVec.getLsbD_setWidth]
  interval_cases i <;> simp

theorem TableRow.nop : TableRow.Statement .nop := fun _ => by simp [fixedBits, tableRow, encode]
theorem TableRow.init (k n : BitVec 8) : TableRow.Statement (.init k n) := fun _ => lengthsWord_fixed 1#4 k n
theorem TableRow.initCtr (k n : BitVec 8) : TableRow.Statement (.initCtr k n) := fun _ => lengthsWord_fixed 2#4 k n
theorem TableRow.nextBlock : TableRow.Statement .nextBlock := fun _ => by simp [fixedBits, tableRow, encode]
theorem TableRow.qr : TableRow.Statement .qr := fun _ => by simp [fixedBits, tableRow, encode]

/-- The low three bits of a quarter-round step are its slot number. -/
theorem slot_fixed : ∀ (r : BitVec 4) (q : BitVec 3), (r ++ q : BitVec 7) &&& 7#7 = q.zeroExtend 7 := by decide +kernel

theorem TableRow.qrCol0 (r : BitVec 4) : TableRow.Statement (.qrCol0 r) := fun _ => slot_fixed r 0
theorem TableRow.qrCol1 (r : BitVec 4) : TableRow.Statement (.qrCol1 r) := fun _ => slot_fixed r 1
theorem TableRow.qrCol2 (r : BitVec 4) : TableRow.Statement (.qrCol2 r) := fun _ => slot_fixed r 2
theorem TableRow.qrCol3 (r : BitVec 4) : TableRow.Statement (.qrCol3 r) := fun _ => slot_fixed r 3
theorem TableRow.qrDiag0 (r : BitVec 4) : TableRow.Statement (.qrDiag0 r) := fun _ => slot_fixed r 4
theorem TableRow.qrDiag1 (r : BitVec 4) : TableRow.Statement (.qrDiag1 r) := fun _ => slot_fixed r 5
theorem TableRow.qrDiag2 (r : BitVec 4) : TableRow.Statement (.qrDiag2 r) := fun _ => slot_fixed r 6
theorem TableRow.qrDiag3 (r : BitVec 4) : TableRow.Statement (.qrDiag3 r) := fun _ => slot_fixed r 7
theorem TableRow.finalize : TableRow.Statement .finalize := fun _ => by simp [fixedBits, tableRow, encode]

end Sys2Proof.Laws
end

