-- ==== Sys2Proof/Laws/Step.lean ====
section
/-! SUPPORT. Everything one step of the machine can do, in terms of the host action or the tick it takes. -/

namespace Sys2Proof.Machine

variable {s t : State}

/-- CMD is the register at offset 0x04 only (R55). -/
theorem regAt_eq_cmd : ∀ i : BitVec 6, regAt i = .cmd → i = 0x01#6 := by decide +kernel

theorem slotInstr_not_command (q : BitVec 3) (r : BitVec 4) : isCommand (slotInstr q r) = false := by
  unfold slotInstr
  split <;> rfl

/-- A step number decodes to a micro-step only. -/
theorem decodeSeq_not_command {n : BitVec 7} {i : Instr} (h : decodeSeq n = .ok i) : isCommand i = false := by
  unfold decodeSeq at h
  split_ifs at h
  · cases h; rfl
  · cases h; exact slotInstr_not_command _ _

/-- What a step does to `u`, the state it started from with the turn and the action taken off their lists. -/
inductive StepEffect (s u : State) : State → Prop where
  /-- The agent had no step. -/
  | idle : StepEffect s u u
  | reset (hr : TakesReset s) : StepEffect s u u.resetRegisters
  | read (v : Word) : StepEffect s u (u.pushReply v)
  | poll (v : Word) (a : HostAction) : StepEffect s u ((u.pushReply v).pushAction a)
  | command (v : Word) (i : Instr) (hw : WritesCmd s v) (hd : decodeCmd v = .ok i) (hi : isCommand i = true)
      (t : State) (he : Effect i u t) : StepEffect s u t
  | rejected (v : Word) (hw : WritesCmd s v) (c : ErrCode) (hc : c ≠ .ok) : StepEffect s u (u.setErr c)
  | stored (i : BitVec 6) (v : Word) (hw : takenAction s = some (.write i v)) (hr : regAt i ≠ .cmd) :
      StepEffect s u (writeReg (regAt i) v u)
  | tick (i : Instr) (hn : (nextTurn s).1 = .sequencer) (hb : s.busy = true) (hd : decodeSeq s.spc = .ok i)
      (hi : isCommand i = false) (t : State) (he : Effect i u t) : StepEffect s u t

theorem hostAct_stepEffect {a : HostAction} {u : State} (ha : takenAction s = some a) (h : hostAct a u = .next t) :
    StepEffect s u t := by
  rcases hostAct_cases h with ⟨v, rfl⟩ | ⟨v, i, m, w, rfl⟩ | ⟨i, v, rfl, hr, hd⟩ | ⟨i, v, rfl, hr, rfl⟩ | ⟨rfl, rfl⟩
  · exact .read v
  · exact .poll v _
  · have hw : WritesCmd s v := by rw [regAt_eq_cmd i hr] at ha; exact ha
    obtain ⟨t', ht', ⟨i, hd', hi, -, he⟩ | ⟨-, c, hc, rfl⟩⟩ := dispatchCommand_cases v u <;>
      rw [ht'] at hd <;> cases hd
    · exact .command v i hw hd' hi _ he
    · exact .rejected v hw c hc
  · exact .stored i v ha hr
  · exact .reset ha

/-- Everything a step can do when it answers a next state. -/
theorem step_effect (h : step s = .next t) :
    ∃ p l, StepEffect s ((s.setSchedule l).setProgram p) t := by
  have turn : ∀ a l, (nextTurn s).1 = a → agentTurn a (s.setSchedule l) = .next t →
      ∃ p, StepEffect s ((s.setSchedule l).setProgram p) t := by
    intro a l ha h
    cases a
    · rcases hostTurn_cases h with ⟨-, rfl⟩ | ⟨a, r, hp, h⟩
      · exact ⟨s.hostProgram, .idle⟩
      · have hp' : s.hostProgram = a :: r := hp
        exact ⟨r, hostAct_stepEffect (by simp [takenAction, ha, hp']) h⟩
    · rcases sequencerTurn_cases h with ⟨-, rfl⟩ | ⟨hb, i, hd, h⟩
      · exact ⟨s.hostProgram, .idle⟩
      · exact ⟨s.hostProgram, .tick i ha hb hd (decodeSeq_not_command hd) _ (exec_effect h)⟩
  rcases step_cases h with ⟨hs, h'⟩ | ⟨a, l, hs, h'⟩
  · obtain ⟨p, e⟩ := turn (defaultAgent s) s.schedule (by simp [nextTurn, hs]) h'
    exact ⟨p, _, e⟩
  · obtain ⟨p, e⟩ := turn a l (by simp [nextTurn, hs]) h'
    exact ⟨p, _, e⟩

end Sys2Proof.Machine
end

