-- ==== Sys2Proof/Laws/Words.lean ====
section
/-! SUPPORT. The small lemmas of the word-array operations: what a slot reads and writes, the add-back, the counter. -/

namespace Sys2Proof.Machine

/-- A slot writes no word but its four (R166). -/
theorem putQuad_other (t : Slot) (w : Vector Word 16) (q : Quad) (i : Nat) (hi : i < 16)
    (ha : i ≠ t.a) (hb : i ≠ t.b) (hc : i ≠ t.c) (hd : i ≠ t.d) : (putQuad t w q)[i] = w[i] := by
  simp only [putQuad]
  rw [Vector.getElem_set_ne _ _ (Ne.symm hd), Vector.getElem_set_ne _ _ (Ne.symm hc),
    Vector.getElem_set_ne _ _ (Ne.symm hb), Vector.getElem_set_ne _ _ (Ne.symm ha)]

@[simp] theorem addBack_getElem (w s : Vector Word 16) (i : Nat) (hi : i < 16) :
    (addBack w s)[i] = w[i] + s[i] := by simp [addBack]

/-- The increment writes S[12] and S[13] only (R175). -/
theorem incrementCounter_other (s : Vector Word 16) (i : Nat) (hi : i < 16) (h12 : i ≠ 12) (h13 : i ≠ 13) :
    (incrementCounter s)[i] = s[i] := by
  simp only [incrementCounter]
  rw [Vector.getElem_set_ne _ _ (Ne.symm h13), Vector.getElem_set_ne _ _ (Ne.symm h12)]

@[simp] theorem incrementCounter_lo (s : Vector Word 16) : (incrementCounter s)[12] = counterLo s[12] := by
  simp [incrementCounter]

@[simp] theorem incrementCounter_hi (s : Vector Word 16) : (incrementCounter s)[13] = counterHi s[12] s[13] := by
  simp [incrementCounter]

@[simp] theorem serialize_getElem (x : Vector Word 16) (k : Nat) (hk : k < 64) :
    (serialize x)[k] = byteOf (x[k / 4]'(by omega)) (k % 4) := by simp [serialize]

@[simp] theorem afterTicks_zero (w : Vector Word 16) : afterTicks 0 w = w := rfl

theorem afterTicks_succ (n : Nat) (w : Vector Word 16) :
    afterTicks (n + 1) w = applySlot (slotAt n) (afterTicks n w) := rfl

end Sys2Proof.Machine
end

