-- ==== Sys2Proof/Tests/Slice0.lean ====
section
/-! SUPPORT. The model's own tests: expected values are from spec/95_test_vectors.md, the encoding tables of
spec/30_encoding.md and the register map of spec/20_memory.md; and, for each statement with hypotheses, a witness that
meets them. -/

namespace Sys2Proof.Tests

open Sys2Proof.Machine

/-! ### Small states -/

/-- The state of vector 1 after INIT: zero key and nonce (95 section 2.2). -/
def validState : State :=
  { State.reset with S := initialMatrix (Vector.replicate 8 0) 0 0 (Vector.replicate 2 0), stateValid := true }

/-- `validState` with a block accepted. -/
def busyState : State := { validState with W := validState.S, busy := true }

/-- A block running at step `n`, its data words left aside. -/
def atSpc (n : BitVec 7) : State := { busyState with spc := n }

/-- The counter words of a state set to `lo` and `hi`. -/
def withCtr (s : State) (lo hi : Word) : State := { s with S := (s.S.set 12 lo).set 13 hi }

/-- A state that holds `v` in ERR (95 section 2.7). -/
def errState : State := { State.reset with err := .illegalOpcode }

/-- What a result's next state gives; `none` after a stop. -/
def get {α : Type} (r : Result) (f : State → α) : Option α :=
  match r with
  | .next s => some (f s)
  | .fault _ => none
  | .refused _ => none

/-- The STATUS word and whether anything but ERR changed. -/
def errOnly (v : Word) (s : State) : Option (Word × Bool) :=
  get (dispatchCommand v s) fun t => (statusWord t, decide (t = { s with err := t.err }))

/-! ### WellFormed refuses an ill-formed term of each check -/

theorem test_wellFormed_refuses_round_ten :
    [Instr.qrCol0 10, .qrCol1 10, .qrCol2 10, .qrCol3 10, .qrDiag0 10, .qrDiag1 10, .qrDiag2 10, .qrDiag3 15].all
      (fun i => !i.wellFormed) = true := by decide

theorem test_wellFormed_accepts_round_nine :
    [Instr.qrCol0 9, .qrCol1 9, .qrCol2 9, .qrCol3 9, .qrDiag0 9, .qrDiag1 9, .qrDiag2 9, .qrDiag3 9].all
      (fun i => i.wellFormed) = true := by decide

/-! ### Decoding, from words written out field by field (R80, R82, R87) -/

-- RSV_B 00000000, NLEN, KLEN, RSV_A 0000, OP
theorem test_decode_nop : decodeCmd 0b00000000000000000000000000000000#32 = .ok .nop := by decide
theorem test_decode_init : decodeCmd 0b00000000000010000010000000000001#32 = .ok (.init 32 8) := by decide
theorem test_decode_initCtr : decodeCmd 0b00000000000010000010000000000010#32 = .ok (.initCtr 32 8) := by decide
theorem test_decode_nextBlock : decodeCmd 0b00000000000000000000000000000011#32 = .ok .nextBlock := by decide
theorem test_decode_qr : decodeCmd 0b00000000000000000000000000000100#32 = .ok .qr := by decide
theorem test_decode_lengths : decodeCmd 0b00000000111111100000000100000001#32 = .ok (.init 1 254) := by decide
-- spc = double-round ‖ slot
theorem test_decode_qrCol0 : decodeSeq 0b0000000#7 = .ok (.qrCol0 0) := by decide
theorem test_decode_qrCol1 : decodeSeq 0b0011001#7 = .ok (.qrCol1 3) := by decide
theorem test_decode_qrCol2 : decodeSeq 0b1001010#7 = .ok (.qrCol2 9) := by decide
theorem test_decode_qrCol3 : decodeSeq 0b0000011#7 = .ok (.qrCol3 0) := by decide
theorem test_decode_qrDiag0 : decodeSeq 0b0101100#7 = .ok (.qrDiag0 5) := by decide
theorem test_decode_qrDiag1 : decodeSeq 0b0001101#7 = .ok (.qrDiag1 1) := by decide
theorem test_decode_qrDiag2 : decodeSeq 0b0110110#7 = .ok (.qrDiag2 6) := by decide
theorem test_decode_qrDiag3 : decodeSeq 0b1001111#7 = .ok (.qrDiag3 9) := by decide
theorem test_decode_finalize : decodeSeq 0b1010000#7 = .ok .finalize := by decide
theorem test_decode_refuses_step_81 : decodeSeq 0b1010001#7 = .error .noSuchStep := by decide
theorem test_decode_refuses_step_127 : decodeSeq 0b1111111#7 = .error .noSuchStep := by decide
theorem test_decode_illegal_low : decodeCmd 0x00000005#32 = .error .illegalOpcode := by decide
theorem test_decode_illegal_high : decodeCmd 0xFFFFFFFF#32 = .error .illegalOpcode := by decide
theorem test_decode_reserved_rsva : decodeCmd 0x00082011#32 = .error .reservedBits := by decide
theorem test_decode_reserved_rsvb : decodeCmd 0x01082001#32 = .error .reservedBits := by decide
theorem test_decode_reserved_lengths : decodeCmd 0x00002003#32 = .error .reservedBits := by decide
theorem test_decodeTableWord_seq : decodeTableWord 8 0x50 = some .finalize := by decide
theorem test_decodeTableWord_cmd : decodeTableWord 32 0x1 = some (.init 0 0) := by decide

/-! ### Fetch: the instruction runs first after reset -/

theorem test_fetch_runs_init :
    get (step (State.reset.withFetchWord 32 0x00082001)) (·.stateValid) = some true := by decide
theorem test_fetch_runs_finalize :
    get (step (State.reset.withFetchWord 8 0x50)) (fun s => (s.outValid, s.S[12])) = some (true, 1) := by decide

/-! ### Commands (95 section 2.7, the rules' examples) -/

theorem test_nop_clears_err : get (exec .nop errState) (·.err) = some .ok := by decide
theorem test_nop_busy : errOnly 0x00000000 busyState = some (0x00000303, true) := by decide

theorem test_next_before_init : errOnly 0x00000003 State.reset = some (0x00000600, true) := by decide
theorem test_next_accepted : get (exec .nextBlock validState) (fun s => (statusWord s, s.spc, decide (s.W = s.S))) =
    some (0x00000003, 0, true) := by decide

theorem test_init_klen_31 : errOnly 0x00081F01 State.reset = some (0x00000100, true) := by decide
theorem test_init_zero_key :
    get (exec (.init 32 8) State.reset) (fun s => (s.S, statusWord s)) =
      some (#v[0x61707865, 0x3320646e, 0x79622d32, 0x6b206574, 0, 0, 0, 0, 0, 0, 0, 0, 0, 0, 0, 0], 0x00000002) := by
  decide +kernel

theorem test_initCtr_nlen_7 : errOnly 0x00072002 State.reset = some (0x00000200, true) := by decide
theorem test_initCtr_counter_words :
    get (exec (.initCtr 32 8) { State.reset with ctrInLo := 2, ctrInHi := 0xffffffff }) (fun s => (s.S[12], s.S[13], s.S[0])) =
      some (2, 0xffffffff, 0x61707865) := by decide

theorem test_init_both_lengths_wrong : errOnly 0x00000001 State.reset = some (0x00000100, true) := by decide
theorem test_opcode_before_reserved : errOnly 0xFFFFFFFF State.reset = some (0x00000400, true) := by decide
theorem test_reserved_bits : errOnly 0x00000013 State.reset = some (0x00000500, true) := by decide
theorem test_busy_first : errOnly 0x00000005 busyState = some (0x00000303, true) := by decide

theorem test_qr_vector :
    get (exec .qr { State.reset with qin := #v[0x11111111, 0x01020304, 0x9b8d6f43, 0x01234567] }) (·.qout) =
      some #v[0xea2a92f4, 0xcb1cf8ce, 0x4581472e, 0x5881c4bb] := by decide +kernel
theorem test_qr_single_bit :
    get (exec .qr { State.reset with qin := #v[0, 0, 0, 1] }) (·.qout) =
      some #v[0x10000000, 0x80800808, 0x01010010, 0x01000010] := by decide +kernel

/-! ### Ticks: the first double-round of vector 1 (95 section 2.3) -/

/-- W after the first `n` ticks of vector 1, from the table's rows. -/
def row3 : Vector Word 16 :=
  #v[0xb7877feb, 0x16526ab4, 0xa0f85005, 0xb1d26bcb, 0x4a7d5c86, 0xfae0ea21, 0x66e11e68, 0xe3a851a6,
     0x5a83fd3f, 0xa0c7c792, 0xf75be0ef, 0x0b7556f4, 0xe21e9bcf, 0x3c599472, 0xca29678d, 0xa600ebd4]

theorem test_qrCol0 : get (exec (.qrCol0 0) busyState) (fun s => (s.W[0], s.W[4], s.W[8], s.W[12], s.spc)) =
    some (0xb7877feb, 0x4a7d5c86, 0x5a83fd3f, 0xe21e9bcf, 1) := by decide +kernel
theorem test_qrCol1 : get (exec (.qrCol1 0) (atSpc 1)) (fun s => (s.W[1], s.W[5], s.W[9], s.W[13])) =
    some (0x16526ab4, 0xfae0ea21, 0xa0c7c792, 0x3c599472) := by decide +kernel
theorem test_qrCol2 : get (exec (.qrCol2 0) (atSpc 2)) (fun s => (s.W[2], s.W[6], s.W[10], s.W[14])) =
    some (0xa0f85005, 0x66e11e68, 0xf75be0ef, 0xca29678d) := by decide +kernel
theorem test_qrCol3 : get (exec (.qrCol3 0) (atSpc 3)) (fun s => (s.W[3], s.W[7], s.W[11], s.W[15])) =
    some (0xb1d26bcb, 0xe3a851a6, 0x0b7556f4, 0xa600ebd4) := by decide +kernel
theorem test_qrDiag0 :
    get (exec (.qrDiag0 0) { atSpc 4 with W := row3 }) (fun s => (s.W[0], s.W[5], s.W[10], s.W[15])) =
      some (0xe45fd249, 0x86bf4098, 0x00fa16bc, 0x87c62165) := by decide +kernel
theorem test_qrDiag1 :
    get (exec (.qrDiag1 0) { atSpc 5 with W := row3 }) (fun s => (s.W[1], s.W[6], s.W[11], s.W[12])) =
      some (0x1bb820a6, 0x460b500a, 0x8a08812a, 0x6bbf8b09) := by decide +kernel
theorem test_qrDiag2 :
    get (exec (.qrDiag2 0) { atSpc 6 with W := row3 }) (fun s => (s.W[2], s.W[7], s.W[8], s.W[13])) =
      some (0xe31a88ea, 0xfa169886, 0x538dca0e, 0xc33013d6) := by decide +kernel
theorem test_qrDiag3 :
    get (exec (.qrDiag3 0) { atSpc 7 with W := row3 }) (fun s => (s.W[3], s.W[4], s.W[9], s.W[14], s.spc)) =
      some (0xe667a9fe, 0x2a3bf673, 0x0c439641, 0xbb9f9849, 8) := by decide +kernel

/-- W of vector 1 after all 80 ticks (95 section 2.4). -/
def w80 : Vector Word 16 :=
  #v[0x4c704011, 0x5d1d8d32, 0x6c08300e, 0xbd9d20df, 0xb819d2bd, 0x1aed8da0, 0xccef36a8, 0xc70d778b,
     0x7c5941da, 0x8d485751, 0x3fe02477, 0x374ad8b8, 0xf4b8436a, 0x1ca11815, 0x69b687c3, 0x8665eeb2]

theorem test_finalize_add_back :
    get (exec .finalize { atSpc 80 with W := w80 }) (fun s => (s.out[0], s.out[3], s.out[15], s.S[12], statusWord s)) =
      some (0xade0b876, 0x28bd8653, 0x8665eeb2, 1, 0x00000006) := by decide +kernel
theorem test_finalize_wrap :
    get (exec .finalize (withCtr (atSpc 80) 0xffffffff 0xffffffff)) (fun s => (s.S[12], s.S[13], s.ctrWrap)) =
      some (0, 0, true) := by decide +kernel
theorem test_counter_carry : (incrementCounter (withCtr validState 0xffffffff 0x12345678).S)[13] = 0x12345679 := by
  decide +kernel
theorem test_counter_no_wrap : counterWraps 0xffffffff 0xfffffffe = false := by decide

/-! ### The bus (95 section 2.8) -/

theorem test_read_id : busRead 0 busyState = 0x43433230 := by decide
theorem test_key_is_write_only :
    get (hostAct (.write 0x07#6 0x0f0e0d0c) State.reset) (fun s => (s.key[3], busRead 0x07#6 s)) = some (0x0f0e0d0c, 0) := by
  decide
theorem test_nonce_reads_back :
    get (hostAct (.write 0x0D#6 0x07060504) State.reset) (busRead 0x0D#6) = some 0x07060504 := by decide
theorem test_ctrLo_is_read_only : get (hostAct (.write 0x10#6 5) validState) (fun s => decide (s = validState)) = some true := by
  decide +kernel
theorem test_out_is_read_only : get (hostAct (.write 0x20#6 1) validState) (fun s => decide (s = validState)) = some true := by
  decide +kernel
theorem test_status_bit_3_clear_keeps :
    get (hostAct (.write 0x02#6 0xFFFFFFF7) { validState with ctrWrap := true }) (·.ctrWrap) = some true := by decide
theorem test_status_bit_3_set_clears :
    get (hostAct (.write 0x02#6 0x00000008) { validState with ctrWrap := true }) (·.ctrWrap) = some false := by decide
theorem test_map_ends :
    [regAt 4, regAt 11, regAt 12, regAt 13, regAt 17, regAt 18, regAt 31, regAt 32, regAt 47, regAt 48, regAt 51,
      regAt 52, regAt 55, regAt 56, regAt 63] =
      [.key 0, .key 7, .nonce 0, .nonce 1, .ctrHi, .reserved, .reserved, .out 0, .out 15, .qin 0, .qin 3, .qout 0,
        .qout 3, .reserved, .reserved] := by decide
theorem test_serializer_constants :
    (List.range 16).map (fun k => busReadByte (BitVec.ofNat 8 (0x80 + k)) { State.reset with out := validState.S }) =
      [0x65, 0x78, 0x70, 0x61, 0x6e, 0x64, 0x20, 0x33, 0x32, 0x2d, 0x62, 0x79, 0x74, 0x65, 0x20, 0x6b] := by
  decide +kernel
theorem test_poll_unmet_repeats :
    get (hostAct asmWait busyState) (fun s => (s.hostProgram, s.replies)) = some ([asmWait], [0x00000003]) := by decide
theorem test_pseudo_init_lengths : asmExpand (.initLens 31 8) = [asmCommand 0x00081F01] := by decide
theorem test_reset_abandons_block :
    get (hostAct .reset busyState) (fun s => decide (s = State.reset)) = some true := by decide +kernel

/-! ### Witnesses: the hypotheses of each statement can be met together -/

theorem witness_NopWritesErrOnly : State.reset.busy = false ∧ busyState.busy = true ∧
    (0x00000010#32).extractLsb' 0 4 = 0x0#4 ∧ (0x00000010#32).extractLsb' 4 28 ≠ 0#28 := by decide
theorem witness_InitBuildsMatrix : State.reset.busy = false ∧ busyState.busy = true ∧ (31#8 ≠ 32#8) ∧ (9#8 ≠ 8#8) ∧
    (0x01082001#32).extractLsb' 0 4 = 0x1#4 ∧ (0x01082001#32).extractLsb' 24 8 ≠ 0#8 := by decide
theorem witness_InitCtrBuildsMatrixAtCounter : State.reset.busy = false ∧ busyState.busy = true ∧ (33#8 ≠ 32#8) ∧
    (7#8 ≠ 8#8) ∧ State.reset.ctrInLo = 0 ∧ State.reset.ctrInHi = 0 ∧
    (0x00082012#32).extractLsb' 0 4 = 0x2#4 ∧ (0x00082012#32).extractLsb' 4 4 ≠ 0#4 := by decide
theorem witness_LengthErrorsOfCommandWord : State.reset.busy = false ∧
    [0x00081F01#32, 0x00092001#32, 0x00082002#32].all (fun v => (v.extractLsb' 0 4 == 1#4 || v.extractLsb' 0 4 == 2#4) &&
      v.extractLsb' 4 4 == 0#4 && v.extractLsb' 24 8 == 0#8) = true ∧
    ((0x00081F01#32).extractLsb' 8 8).toNat = 31 ∧ ((0x00092001#32).extractLsb' 16 8).toNat = 9 ∧
    ((0x00082002#32).extractLsb' 8 8).toNat = 32 ∧ ((0x00082002#32).extractLsb' 16 8).toNat = 8 := by decide
theorem witness_AcceptedInitCommonEffects :
    get (exec (.init 32 8) State.reset) (·.err) = some .ok ∧ get (exec (.initCtr 32 8) State.reset) (·.err) = some .ok := by
  decide
theorem witness_QrWritesQout : State.reset.busy = false ∧ busyState.busy = true ∧
    (0x80000004#32).extractLsb' 0 4 = 0x4#4 ∧ (0x80000004#32).extractLsb' 4 28 ≠ 0#28 := by decide
theorem witness_NextBlockStartsBlock : validState.busy = false ∧ validState.stateValid = true ∧ busyState.busy = true ∧
    (0x00000013#32).extractLsb' 0 4 = 0x3#4 ∧ (0x00000013#32).extractLsb' 4 28 ≠ 0#28 := by decide
theorem witness_NextBlockNeedsValidState : State.reset.busy = false ∧ State.reset.stateValid = false := by decide
theorem witness_IllegalOpcodeRejected : 5 ≤ ((0x00000005#32).extractLsb' 0 4).toNat ∧
    5 ≤ ((0xFFFFFFFF#32).extractLsb' 0 4).toNat ∧ State.reset.busy = false ∧ busyState.busy = true := by decide
theorem witness_ReservedBitsRejected : State.reset.busy = false ∧ (0x00082012#32).extractLsb' 0 4 = 0x2#4 ∧
    (0x00082012#32).extractLsb' 4 4 ≠ 0#4 ∧ (0x00000013#32).extractLsb' 0 4 = 0x3#4 ∧
    (0x00000013#32).extractLsb' 4 28 ≠ 0#28 := by decide
theorem witness_BusyRejectsEveryCommand : busyState.busy = true ∧ get (sequencerTurn busyState) (·.err) = some .ok := by
  decide +kernel
theorem witness_CommandAndFinalizeInEitherOrder : (atSpc 80).busy = true ∧ (atSpc 80).spc = 80#7 := by decide
theorem witness_RotationMovesBits : 0 < 1 ∧ 31 < 32 ∧ (rotl32 1 31).getLsbD 31 = true ∧ (rotl32 1 1).getLsbD 1 = true := by
  decide
theorem witness_QuarterRoundTicks : (9#4 < 10#4) ∧ (atSpc 79).busy = true ∧ (atSpc 72).spc = 9#4 ++ 0#3 ∧
    (atSpc 73).spc = 9#4 ++ 1#3 ∧ (atSpc 74).spc = 9#4 ++ 2#3 ∧ (atSpc 75).spc = 9#4 ++ 3#3 ∧
    (atSpc 76).spc = 9#4 ++ 4#3 ∧ (atSpc 77).spc = 9#4 ++ 5#3 ∧ (atSpc 78).spc = 9#4 ++ 6#3 ∧
    (atSpc 79).spc = 9#4 ++ 7#3 := by decide
theorem witness_SlotWritesItsFourWords :
    [(3 : Fin 16), 4, 9, 14].Nodup ∧ (15 : Fin 16) ∉ [(3 : Fin 16), 4, 9, 14] := by decide
theorem witness_FinalizeTick : (atSpc 80).busy = true ∧ (atSpc 80).spc = 80#7 := by decide
theorem witness_TickRunsStepNamedBySpc : State.reset.busy = false ∧ (atSpc 79).busy = true ∧ (atSpc 79).spc.toNat ≤ 79 ∧
    (atSpc 0).spc.toNat ≤ 79 ∧ (atSpc 80).spc = 80#7 := by decide
theorem witness_UnselectedMicroStepIsStuck : State.reset.busy = false ∧ (atSpc 1).spc ≠ 0#4 ++ 0#3 ∧
    (atSpc 79).spc ≠ 80#7 ∧ (10#4 ≤ 10#4) ∧ (atSpc 80).spc = 10#4 ++ 0#3 := by decide
theorem witness_RoundLanesAreIndependent :
    [slotCol2, slotCol0, slotCol3, slotCol1].Perm [slotCol0, slotCol1, slotCol2, slotCol3] ∧
    [slotDiag3, slotDiag2, slotDiag1, slotDiag0].Perm [slotDiag0, slotDiag1, slotDiag2, slotDiag3] := by decide
theorem witness_EightyTicksComputePermutation : busyState.busy = true ∧ busyState.spc = 0#7 := by decide
theorem witness_CompletedBlockIsChaChaBlock : validState.busy = false ∧ validState.stateValid = true := by decide

/-- A running block meets the invariant. -/
theorem witness_CoreInv_busy : CoreInv busyState := by
  refine ⟨⟨by decide, fun h => by cases h⟩, fun _ => ⟨rfl, rfl, rfl⟩, fun _ => by decide, ?_, ?_⟩ <;>
    intro h <;> cases h

/-- The turns of a block at its first step before its last tick: 80 ticks, then two accesses of the host. -/
def turns : List Agent := List.replicate 80 .sequencer ++ [.host, .host]

/-- `busyState` with those turns, the last tick after them, and a host that writes NEXT_BLOCK to CMD and reads STATUS. -/
def crossedState : State :=
  { busyState with hostProgram := [.write 1 3, .read 2], schedule := turns ++ [.sequencer] }

theorem witness_BlockUnderAnyInterleaving : CoreInv crossedState ∧ crossedState.busy = true ∧
    (∀ a ∈ crossedState.hostProgram, a ≠ .reset) ∧ crossedState.schedule = turns ++ [.sequencer] ∧
    turns.count .sequencer + crossedState.spc.toNat = 80 :=
  ⟨witness_CoreInv_busy, rfl, by decide, rfl, by decide⟩
theorem witness_HostCannotDisturbBlock : busyState.busy = true ∧ HostAction.write 1 0x00000004 ≠ .reset := by decide
theorem witness_CounterIncrementIsSixtyFourBit : (withCtr (atSpc 80) 0xffffffff 0xffffffff).busy = true ∧
    (withCtr (atSpc 80) 0xffffffff 0xffffffff).spc = 80#7 ∧
    counterOf (withCtr (atSpc 80) 0xffffffff 0xffffffff).S = 0xFFFFFFFFFFFFFFFF#64 := by decide +kernel
theorem witness_CounterAfterBlocks : State.reset.busy = false := by decide
theorem witness_StatusFields : (0x00000008#32).getLsbD 3 = true ∧ (0xFFFFFFF7#32).getLsbD 3 = false := by decide
theorem witness_KeyMaterialIsNotReadable : SameWindow State.reset { State.reset with
    key := Vector.replicate 8 1, W := Vector.replicate 16 2, S := State.reset.S.set 4 3 } :=
  ⟨rfl, rfl, rfl, rfl, rfl, rfl, rfl, rfl, rfl, rfl, rfl, rfl, rfl, rfl⟩
theorem witness_PollRepeatsUntilMatch : busRead 2 State.reset &&& 0x1 = 0x0 ∧ busRead 2 busyState &&& 0x1 ≠ 0x0 := by decide
theorem witness_ResetAbandonsBlockAndKeys : get (hostAct .reset busyState) (·.busy) = some false ∧
    get (hostAct .reset validState) (·.stateValid) = some false := by decide +kernel
theorem witness_DecodeOfEncode : (Instr.init 255 0).wellFormed = true ∧ (Instr.qrDiag3 9).wellFormed = true := by decide
theorem witness_EncodeOfDecode : decode (.cmd 0x00FF0001) = .ok (.init 0 255) ∧ decode (.seq 79) = .ok (.qrDiag3 9) := by
  decide
theorem witness_StepRunsDecodedInstruction :
    ({ State.reset with hostProgram := [.write 1 4] }).hostProgram = HostAction.write 0x01#6 4 :: [] ∧
    decodeCmd 4 = .ok .qr ∧ State.reset.schedule = [] ∧ State.reset.busy = false ∧ busyState.busy = true ∧
    decodeSeq busyState.spc = .ok (.qrCol0 0) ∧ busyState.schedule = [] := by decide
theorem witness_FetchedWordIsWhatRuns : decodeTableWord 32 3 = some .nextBlock ∧ 8 < 32 ∧
    decodeTableWord 8 7 = some (.qrDiag3 0) := by decide

/-- The invariant at a state and a step from it. -/
theorem witness_StepKeepsInvariant : CoreInv busyState ∧ get (step busyState) (·.spc) = some 1 :=
  ⟨witness_CoreInv_busy, by decide +kernel⟩

/-- An idle state meets the invariant, and its step is an idle turn; a busy one meets it too. -/
theorem witness_StepNeverStopsUnderInvariant : CoreInv validState ∧ CoreInv busyState := by
  refine ⟨⟨⟨by decide, fun _ => rfl⟩, (fun h => by cases h), fun _ => by decide, ?_, ?_⟩, witness_CoreInv_busy⟩ <;>
    intro h <;> cases h

/-- The finalize tick, its counter about to wrap: a step that changes S, OUT, the flags and CTR_WRAP. -/
theorem witness_WritersOfStateMatrix :
    get (step (withCtr (atSpc 80) 0xffffffff 0xffffffff))
      (fun t => (decide (t.S ≠ (withCtr (atSpc 80) 0xffffffff 0xffffffff).S), t.ctrWrap, t.outValid, t.busy)) =
      some (true, true, true, false) := by decide +kernel
theorem witness_WritersOfOut : get (step (atSpc 80)) (fun t => decide (t.out ≠ (atSpc 80).out)) = some true := by
  decide +kernel
theorem witness_WritersOfErr :
    get (step { State.reset with hostProgram := [.write 1 5] }) (fun t => (decide (t.err ≠ State.reset.err))) = some true := by
  decide
theorem witness_CtrWrapIsSticky :
    get (step { validState with ctrWrap := true, hostProgram := [.write 2 8] }) (·.ctrWrap) = some false := by decide
theorem witness_WritersOfFlags :
    get (step { validState with hostProgram := [.write 1 3] }) (·.busy) = some true ∧
    get (step { State.reset with hostProgram := [.write 1 0x00082001] }) (·.stateValid) = some true ∧
    get (step { validState with hostProgram := [.reset] }) (·.stateValid) = some false ∧
    get (step { validState with outValid := true, hostProgram := [.write 1 3] }) (·.outValid) = some false := by
  decide +kernel
theorem witness_WritersOfStagingAndSequencer :
    get (step { State.reset with hostProgram := [.write 0x0B 7] }) (·.key[7]) = some 7 ∧
    get (step { State.reset with hostProgram := [.write 0x0C 7] }) (·.nonce[0]) = some 7 ∧
    get (step { State.reset with hostProgram := [.write 0x33 7] }) (·.qin[3]) = some 7 ∧
    get (step { State.reset with qin := #v[1, 0, 0, 0], hostProgram := [.write 1 4] }) (·.qout[0]) = some 0x10000001 := by
  decide +kernel
theorem witness_InstructionFrames : get (exec .nop State.reset) (·.err) = some .ok ∧
    get (exec (.qrCol0 0) busyState) (·.spc) = some 1 ∧ get (exec .finalize (atSpc 80)) (·.busy) = some false := by
  decide +kernel
theorem witness_WindowFrames : (0x0C#8).toNat / 4 ≠ 0x08 / 4 ∧ (0x07#8).toNat / 4 ≠ 0x08 / 4 ∧
    ¬ (0xD0 ≤ (0xCF#8).toNat ∧ (0xCF#8).toNat < 0xE0) ∧ ¬ (0x80 ≤ (0xC0#8).toNat ∧ (0xC0#8).toNat < 0xC0) := by decide
theorem witness_ControlIsDataIndependent : SameControl busyState { busyState with S := Vector.replicate 16 7 } ∧
    get (sequencerTurn busyState) (·.spc) = some 1 := ⟨⟨rfl, rfl, rfl, rfl, rfl⟩, by decide +kernel⟩

end Sys2Proof.Tests
end

/-! # The scope family (00_scope): rotations, the step, safety of every run, and a block under any interleaving -/

namespace Sys2Proof.Machine

/-! ### Rotation (R9, R144) -/

/-- The bit law of the rotation (R9): the left part supplies the bits from `n` up, the right part those below. -/
theorem rotl32_getLsbD (x : Word) {n i : Nat} (hn : 0 < n) (hn32 : n < 32) (hi : i < 32) :
    (rotl32 x n).getLsbD i = x.getLsbD ((i + 32 - n) % 32) := by
  simp only [rotl32, BitVec.getLsbD_or, BitVec.getLsbD_shiftLeft, BitVec.getLsbD_ushiftRight]
  by_cases hin : i < n
  · have hidx : (i + 32 - n) % 32 = 32 - n + i := by omega
    simp [hin, hidx]
  · have hidx : (i + 32 - n) % 32 = i - n := by omega
    have hout : x.getLsbD (32 - n + i) = false := BitVec.getLsbD_of_ge _ _ (by omega)
    simp [hin, hidx, hout, hi]

/-- Rotation by half the width swaps the halves. -/
theorem rotl32_sixteen (x : Word) : rotl32 x 16 = x.extractLsb' 0 16 ++ x.extractLsb' 16 16 := by
  refine BitVec.eq_of_getLsbD_eq fun i hi => ?_
  rw [rotl32_getLsbD x (by decide) (by decide) hi, BitVec.getLsbD_append]
  by_cases h : i < 16
  · have hidx : (i + 32 - 16) % 32 = 16 + i := by omega
    rw [hidx]
    simp [h]
  · have hidx : (i + 32 - 16) % 32 = i - 16 := by omega
    have hlt : i - 16 < 16 := by omega
    rw [hidx]
    simp [h, hlt]

theorem rotl32_zero_word {n : Nat} (hn : 0 < n) (hn32 : n < 32) : rotl32 0 n = 0 := by
  refine BitVec.eq_of_getLsbD_eq fun i hi => ?_
  rw [rotl32_getLsbD 0 hn hn32 hi]
  simp

theorem rotl32_allOnes {n : Nat} (hn : 0 < n) (hn32 : n < 32) :
    rotl32 (BitVec.allOnes 32) n = BitVec.allOnes 32 := by
  refine BitVec.eq_of_getLsbD_eq fun i hi => ?_
  have hidx : (i + 32 - n) % 32 < 32 := Nat.mod_lt _ (by decide)
  rw [rotl32_getLsbD _ hn hn32 hi, BitVec.getLsbD_allOnes, BitVec.getLsbD_allOnes, decide_eq_true hidx,
    decide_eq_true hi]

/-- Settles O17: the bit law, and each corner read off it bit by bit. -/
theorem rotationMovesBits : Obligations.RotationMovesBits :=
  ⟨fun x _ _ hn hn32 hi => rotl32_getLsbD x hn hn32 hi, rotl32_sixteen,
    fun _ hn hn32 => ⟨rotl32_zero_word hn hn32, rotl32_allOnes hn hn32⟩⟩

/-! ### One step: whose turn it is and what that agent runs (R12, R57, R165) -/

section
variable {s : State} {v : Word} {i : Instr}

theorem step_of_schedule_cons {a : Agent} {l : List Agent} (h : s.schedule = a :: l) :
    step s = agentTurn a (s.setSchedule l) := by
  simp [step, nextTurn, h]

theorem step_of_schedule_nil (h : s.schedule = []) : step s = agentTurn (defaultAgent s) s := by
  simp [step, nextTurn, h]

/-- With no turn fixed the host steps while no block runs. -/
theorem step_default_idle (h : s.schedule = []) (hb : s.busy = false) : step s = hostTurn s := by
  simp [step_of_schedule_nil h, defaultAgent, hb, agentTurn]

/-- With no turn fixed the sequencer steps while a block runs. -/
theorem step_default_busy (h : s.schedule = []) (hb : s.busy = true) : step s = sequencerTurn s := by
  simp [step_of_schedule_nil h, defaultAgent, hb, agentTurn]

theorem hostTurn_nil (h : s.hostProgram = []) : hostTurn s = .next s := by
  simp [hostTurn, h]

theorem hostTurn_cons {a : HostAction} {p : List HostAction} (h : s.hostProgram = a :: p) :
    hostTurn s = hostAct a (s.setProgram p) := by
  simp [hostTurn, h]

theorem dispatchCommand_of_decode (h : decodeCmd v = .ok i) (s : State) : dispatchCommand v s = exec i s := by
  simp [dispatchCommand, h]

/-- A write to the register at offset 0x04 is the dispatch of its word (R57). -/
theorem hostAct_write_cmd (v : Word) (s : State) : hostAct (.write 0x01#6 v) s = dispatchCommand v s := rfl

theorem sequencerTurn_idle (hb : s.busy = false) : sequencerTurn s = .next s := by
  simp [sequencerTurn, hb]

theorem sequencerTurn_of_decode (hb : s.busy = true) (hd : decodeSeq s.spc = .ok i) :
    sequencerTurn s = exec i s := by
  simp [sequencerTurn, hb, hd]

/-- The host's turn with a CMD write at the head of its program is the decoded command. -/
theorem hostTurn_command {p : List HostAction} (hp : s.hostProgram = .write 0x01#6 v :: p)
    (hd : decodeCmd v = .ok i) : hostTurn s = exec i (s.setProgram p) := by
  rw [hostTurn_cons hp, hostAct_write_cmd, dispatchCommand_of_decode hd]

/-- Settles O43: the turn is taken from the schedule, or is the default agent's, and that agent runs what it decodes. -/
theorem stepRunsDecodedInstruction : Obligations.StepRunsDecodedInstruction := by
  refine ⟨fun s v i p l hp hd => ⟨fun hl => ?_, fun hl hb => ?_⟩, fun s i l hb hd => ⟨fun hl => ?_, fun hl => ?_⟩⟩
  · rw [step_of_schedule_cons hl]
    exact hostTurn_command (s := s.setSchedule l) hp hd
  · rw [step_default_idle hl hb]
    exact hostTurn_command hp hd
  · rw [step_of_schedule_cons hl]
    exact sequencerTurn_of_decode (s := s.setSchedule l) hb hd
  · rw [step_default_busy hl hb]
    exact sequencerTurn_of_decode hb hd

end

/-! ### The sequencer's turn while a block runs (R87, R165) -/

/-- The micro-step of slot `q` is the quarter-round tick on that slot's words. -/
theorem exec_slotInstr (q : BitVec 3) (r : BitVec 4) (s : State) :
    exec (slotInstr q r) s = quarterRoundTick q (slotAt q.toNat) r s := by
  obtain ⟨⟨q, hq⟩⟩ := q
  interval_cases q <;> rfl

/-- A step number is its double-round above its slot (R87). -/
theorem spc_eq_append : ∀ n : BitVec 7, n.extractLsb' 3 4 ++ n.extractLsb' 0 3 = n := by decide

section
variable {s : State}

theorem sequencerTurn_quarter (hb : s.busy = true) (hlt : s.spc < 80#7) :
    sequencerTurn s = .next (s.quarterTick (slotAt s.spc.toNat)) := by
  have hne : s.spc ≠ 80#7 := by bv_omega
  have hd : decodeSeq s.spc = .ok (slotInstr (s.spc.extractLsb' 0 3) (s.spc.extractLsb' 3 4)) := by
    simp [decodeSeq, hne, hlt]
  have hslot : slotAt (s.spc.extractLsb' 0 3).toNat = slotAt s.spc.toNat := by
    rw [← slotAt_append (s.spc.extractLsb' 3 4), spc_eq_append]
  rw [sequencerTurn_of_decode hb hd, exec_slotInstr, hslot, quarterRoundTick, spc_eq_append,
    (atStep_iff s.spc).2 ⟨hb, rfl⟩, decide_eq_true hlt]
  rfl

theorem sequencerTurn_finalize (hb : s.busy = true) (h80 : s.spc = 80#7) :
    sequencerTurn s = .next s.finishBlock := by
  have hd : decodeSeq s.spc = .ok .finalize := by rw [h80]; rfl
  rw [sequencerTurn_of_decode hb hd, exec, execFinalize, (atStep_iff 80).2 ⟨hb, h80⟩, microStep_on]

end

/-! ### Safety: the step counter stays in range, so every step answers a next state (R24) -/

/-- A host action never stops the machine (R203, R205). -/
theorem hostAct_total (a : HostAction) (s : State) : ∃ t, hostAct a s = .next t := by
  cases a with
  | read i => exact ⟨_, rfl⟩
  | write i v =>
    simp only [hostAct, busWrite]
    split
    · obtain ⟨t, ht, -⟩ := dispatchCommand_cases v s
      exact ⟨t, ht⟩
    · exact ⟨_, rfl⟩
  | poll i m v =>
    simp only [hostAct]
    split <;> exact ⟨_, rfl⟩
  | reset => exact ⟨_, rfl⟩

theorem hostTurn_total (s : State) : ∃ t, hostTurn s = .next t := by
  cases hp : s.hostProgram with
  | nil => exact ⟨s, hostTurn_nil hp⟩
  | cons a p => rw [hostTurn_cons hp]; exact hostAct_total a _

section
variable {s t u : State}

theorem sequencerTurn_total (h : s.spc ≤ 80#7) : ∃ t, sequencerTurn s = .next t := by
  cases hb : s.busy with
  | false => exact ⟨s, sequencerTurn_idle hb⟩
  | true =>
    by_cases h80 : s.spc = 80#7
    · exact ⟨_, sequencerTurn_finalize hb h80⟩
    · exact ⟨_, sequencerTurn_quarter hb (by bv_omega)⟩

theorem agentTurn_total (a : Agent) (h : s.spc ≤ 80#7) : ∃ t, agentTurn a s = .next t := by
  cases a with
  | host => exact hostTurn_total s
  | sequencer => exact sequencerTurn_total h

/-- The machine stops in no state whose step counter is at most 80. -/
theorem step_total (h : s.spc ≤ 80#7) : ∃ t, step s = .next t := by
  cases hl : s.schedule with
  | nil => rw [step_of_schedule_nil hl]; exact agentTurn_total _ h
  | cons a l => rw [step_of_schedule_cons hl]; exact agentTurn_total a (s := s.setSchedule l) h

theorem spcInRange_of_zero (h : s.spc = 0) : SpcInRange s :=
  ⟨h ▸ by decide, fun _ => h⟩

/-- An instruction keeps the step counter in range. -/
theorem Effect.keeps_spcInRange {i : Instr} (e : Effect i s t) (h : SpcInRange s) : SpcInRange t := by
  obtain ⟨hle, hidle⟩ := h
  cases e with
  | rejected | nop | built | mixed => exact ⟨hle, hidle⟩
  | started | finished => exact spcInRange_of_zero rfl
  | ticked _ _ hb hlt =>
    have hnext : s.spc + 1 ≤ 80#7 := by bv_omega
    exact ⟨hnext, fun hf => by simp [hb] at hf⟩

@[simp] theorem writeReg_spc (r : Reg) (v : Word) (s : State) : (writeReg r v s).spc = s.spc := by cases r <;> rfl

@[simp] theorem writeReg_busy (r : Reg) (v : Word) (s : State) : (writeReg r v s).busy = s.busy := by cases r <;> rfl

theorem StepEffect.keeps_spcInRange (e : StepEffect s u t) (h : SpcInRange u) : SpcInRange t := by
  cases e with
  | idle | read | poll | rejected => exact h
  | reset => exact spcInRange_of_zero rfl
  | command _ _ _ _ _ _ he | tick _ _ _ _ _ _ he => exact he.keeps_spcInRange h
  | stored i v => simpa [SpcInRange] using h

/-- Every step keeps the step counter in range. -/
theorem step_keeps_spcInRange (h : SpcInRange s) (hs : step s = .next t) : SpcInRange t := by
  obtain ⟨p, l, e⟩ := step_effect hs
  exact e.keeps_spcInRange h

/-- A state is safe when it meets a predicate that every step keeps and under which the machine takes a step. -/
theorem safe_of_invariant {P : State → Prop} (hkeep : ∀ s t, P s → step s = .next t → P t)
    (htotal : ∀ s, P s → ∃ t, step s = .next t) (h : P s) : Safe s := by
  intro n
  induction n generalizing s with
  | zero => exact ⟨s, rfl⟩
  | succ n ih =>
    obtain ⟨u, hu⟩ := htotal s h
    rw [steps_succ, hu, andThen_next]
    exact ih (hkeep s u h hu)

end

/-- Settles O48: the step counter is in range at reset, every step keeps it there, and no step stops while it is. -/
theorem everyHostProgramIsSafe : Obligations.EveryHostProgramIsSafe := fun _ _ =>
  safe_of_invariant (P := SpcInRange) (fun _ _ => step_keeps_spcInRange) (fun _ h => step_total h.1)
    (spcInRange_of_zero rfl)

/-! ### The ticks of a block compute the permutation (R164, R166) -/

/-- The slot of a tick depends on its place in the double-round only. -/
theorem slotAt_double_round (n q : Nat) : slotAt (8 * n + q) = slotAt q := by
  simp [slotAt]

/-- Eight ticks are one double-round: four columns, then four diagonals. -/
theorem afterTicks_eight_mul (n : Nat) (w : Vector Word 16) : afterTicks (8 * n) w = doubleRounds n w := by
  induction n with
  | zero => rfl
  | succ n ih =>
    have h8 : 8 * (n + 1) = 8 * n + 7 + 1 := by omega
    have h0 : slotAt (8 * n) = slotAt 0 := slotAt_double_round n 0
    rw [h8]
    simp only [afterTicks_succ, slotAt_double_round, h0, ih]
    rw [doubleRounds, doubleRound, diagonalRound, columnRound]
    rfl

theorem afterTicks_eighty (w : Vector Word 16) : afterTicks 80 w = permute w := afterTicks_eight_mul 10 w

/-! ### A running block under the host's accesses (R179, R206, R241) -/

/-- `t` holds the same block as `s`, at the same step of it, with the same turns to come. -/
structure SameBlock (s t : State) : Prop where
  S : t.S = s.S
  W : t.W = s.W
  spc : t.spc = s.spc
  out : t.out = s.out
  busy : t.busy = s.busy
  stateValid : t.stateValid = s.stateValid
  outValid : t.outValid = s.outValid
  qout : t.qout = s.qout
  schedule : t.schedule = s.schedule

/-- A write to a register other than CMD leaves the block alone. -/
theorem writeReg_sameBlock (r : Reg) (v : Word) (s : State) : SameBlock s (writeReg r v s) := by
  cases r <;> exact ⟨rfl, rfl, rfl, rfl, rfl, rfl, rfl, rfl, rfl⟩

@[simp] theorem writeReg_hostProgram (r : Reg) (v : Word) (s : State) :
    (writeReg r v s).hostProgram = s.hostProgram := by cases r <;> rfl

section
variable {s t : State}

/-- Every command is rejected with BUSY while a block runs (R206). -/
theorem exec_command_busy {i : Instr} (hi : isCommand i = true) (hb : s.busy = true) :
    exec i s = .next (s.setErr .busy) := by
  cases i with
  | nop | init | initCtr | nextBlock | qr => exact whileIdle_busy hb _
  | _ => cases hi

/-- Every word written to CMD is rejected with BUSY while a block runs (R206). -/
theorem dispatchCommand_busy (v : Word) (hb : s.busy = true) : dispatchCommand v s = .next (s.setErr .busy) := by
  cases hd : decodeCmd v with
  | ok i => rw [dispatchCommand_of_decode hd, exec_command_busy (decodeCmd_isCommand hd) hb]
  | error why => simp [dispatchCommand, hd, whileIdle_busy hb]

/-- What an access of the host can do while a block runs: the block is the same, and the program is unchanged but for a
poll put back at its head. -/
theorem hostAct_while_busy {a : HostAction} (hb : s.busy = true) (ha : a ≠ .reset) (h : hostAct a s = .next t) :
    SameBlock s t ∧
      (t.hostProgram = s.hostProgram ∨ ∃ i m w, t.hostProgram = .poll i m w :: s.hostProgram) := by
  rcases hostAct_cases h with ⟨v, rfl⟩ | ⟨v, i, m, w, rfl⟩ | ⟨i, v, -, -, hd⟩ | ⟨i, v, -, -, rfl⟩ | ⟨hreset, -⟩
  · exact ⟨⟨rfl, rfl, rfl, rfl, rfl, rfl, rfl, rfl, rfl⟩, .inl rfl⟩
  · exact ⟨⟨rfl, rfl, rfl, rfl, rfl, rfl, rfl, rfl, rfl⟩, .inr ⟨i, m, w, rfl⟩⟩
  · rw [dispatchCommand_busy v hb] at hd
    cases hd
    exact ⟨⟨rfl, rfl, rfl, rfl, rfl, rfl, rfl, rfl, rfl⟩, .inl rfl⟩
  · exact ⟨writeReg_sameBlock _ v s, .inl (writeReg_hostProgram _ v s)⟩
  · exact absurd hreset ha

end

/-! ### A block under any interleaving (R12, R179) -/

@[simp] theorem andThen_next_right (r : Result) : andThen r .next = r := by
  cases r <;> rfl

/-- One more step after `n`. -/
theorem steps_succ_of_steps {n : Nat} {s u : State} (h : steps n s = .next u) : steps (n + 1) s = step u := by
  induction n generalizing s with
  | zero =>
    cases h
    exact andThen_next_right (step u)
  | succ n ih =>
    obtain ⟨v, hv, hu⟩ := andThen_eq_next (steps_succ n s ▸ h)
    rw [steps_succ, hv, andThen_next, ih hu]

/-- `s` runs the block of the matrix `m`: W holds `m` after the ticks already taken, and the host will not reset. -/
structure RunsBlock (m : Vector Word 16) (s : State) : Prop where
  busy : s.busy = true
  matrix : s.S = m
  spc_le : s.spc ≤ 80#7
  work : s.W = afterTicks s.spc.toNat m
  noReset : ∀ a ∈ s.hostProgram, a ≠ .reset

section
variable {m : Vector Word 16} {s t : State}

theorem runsBlock_of_coreInv (hinv : CoreInv s) (hb : s.busy = true) (hp : ∀ a ∈ s.hostProgram, a ≠ .reset) :
    RunsBlock s.S s := by
  obtain ⟨⟨hle, -⟩, hblock, -, -, -⟩ := hinv
  obtain ⟨-, -, hW⟩ := hblock hb
  exact ⟨hb, rfl, hle, hW, hp⟩

theorem RunsBlock.setSchedule (h : RunsBlock m s) (l : List Agent) : RunsBlock m (s.setSchedule l) :=
  ⟨h.busy, h.matrix, h.spc_le, h.work, h.noReset⟩

theorem RunsBlock.of_sameBlock (h : RunsBlock m s) (e : SameBlock s t) (hp : ∀ a ∈ t.hostProgram, a ≠ .reset) :
    RunsBlock m t where
  busy := by rw [e.busy, h.busy]
  matrix := by rw [e.S, h.matrix]
  spc_le := by rw [e.spc]; exact h.spc_le
  work := by rw [e.W, e.spc, h.work]
  noReset := hp

/-- A turn of the host leaves a running block at its step. -/
theorem RunsBlock.hostTurn (h : RunsBlock m s) :
    ∃ t, Machine.hostTurn s = .next t ∧ RunsBlock m t ∧ t.spc = s.spc ∧ t.schedule = s.schedule := by
  cases hp : s.hostProgram with
  | nil => exact ⟨s, hostTurn_nil hp, h, rfl, rfl⟩
  | cons a p =>
    have hnr : a ≠ .reset ∧ ∀ b ∈ p, b ≠ .reset := by simpa [hp] using h.noReset
    obtain ⟨t, ht⟩ := hostAct_total a (s.setProgram p)
    obtain ⟨same, hprog⟩ := hostAct_while_busy (s := s.setProgram p) h.busy hnr.1 ht
    have hnr' : ∀ b ∈ t.hostProgram, b ≠ .reset := by
      rcases hprog with hprog | ⟨i, k, w, hprog⟩ <;> simpa [hprog] using hnr.2
    have hrest : RunsBlock m (s.setProgram p) := ⟨h.busy, h.matrix, h.spc_le, h.work, hnr.2⟩
    exact ⟨t, by rw [hostTurn_cons hp, ht], hrest.of_sameBlock same hnr', same.spc, same.schedule⟩

/-- A quarter-round tick takes a running block to its next step. -/
theorem RunsBlock.quarterTick (h : RunsBlock m s) (hlt : s.spc < 80#7) :
    RunsBlock m (s.quarterTick (slotAt s.spc.toNat)) ∧
      (s.quarterTick (slotAt s.spc.toNat)).spc.toNat = s.spc.toNat + 1 := by
  have hnext : (s.spc + 1).toNat = s.spc.toNat + 1 := by bv_omega
  refine ⟨⟨h.busy, h.matrix, ?_, ?_, h.noReset⟩, hnext⟩
  · simp only [State.quarterTick_spc]; bv_omega
  · rw [State.quarterTick_W, State.quarterTick_spc, hnext, afterTicks_succ, h.work]

/-- The finalize tick ends a running block: OUT is its block, and the counter of S has moved on (R172, R175, R177). -/
theorem RunsBlock.finishBlock_out (h : RunsBlock m s) (h80 : s.spc = 80#7) : s.finishBlock.out = blockWords m := by
  have hW : s.W = permute m := by rw [h.work, h80]; exact afterTicks_eighty m
  rw [State.finishBlock_out, hW, h.matrix, blockWords]

/-- One scheduled turn takes a running block on by one step if it is the sequencer's, and by none if it is the host's. -/
theorem RunsBlock.step {a : Agent} {l : List Agent} (h : RunsBlock m s) (hl : s.schedule = a :: l)
    (hleft : a = .sequencer → s.spc < 80#7) :
    ∃ t, Machine.step s = .next t ∧ RunsBlock m t ∧ t.schedule = l ∧
      t.spc.toNat = [a].count .sequencer + s.spc.toNat := by
  rw [step_of_schedule_cons hl]
  cases a with
  | host =>
    obtain ⟨t, ht, hblock, hspc, hsched⟩ := (h.setSchedule l).hostTurn
    exact ⟨t, ht, hblock, hsched, by simp [hspc]⟩
  | sequencer =>
    have hlt : (s.setSchedule l).spc < 80#7 := hleft rfl
    obtain ⟨hblock, hspc⟩ := (h.setSchedule l).quarterTick hlt
    exact ⟨_, sequencerTurn_quarter h.busy hlt, hblock, rfl, by rw [hspc, List.count_singleton_self, Nat.add_comm]; rfl⟩

/-- Any list of turns with no more ticks than are left before the last takes a running block on by its ticks. -/
theorem RunsBlock.steps (l rest : List Agent) (h : RunsBlock m s) (hl : s.schedule = l ++ rest)
    (hle : l.count .sequencer + s.spc.toNat ≤ 80) :
    ∃ t, Machine.steps l.length s = .next t ∧ RunsBlock m t ∧ t.schedule = rest ∧
      t.spc.toNat = l.count .sequencer + s.spc.toNat := by
  induction l generalizing s with
  | nil => exact ⟨s, rfl, h, hl, by simp⟩
  | cons a l ih =>
    have hcount : (a :: l).count .sequencer = l.count .sequencer + [a].count .sequencer := by
      simp [List.count_cons]
    have hleft : a = .sequencer → s.spc < 80#7 := by
      rintro rfl
      rw [List.count_cons_self] at hle
      bv_omega
    obtain ⟨u, hu, hblock, hsched, hspc⟩ := h.step hl hleft
    obtain ⟨t, ht, hblock', hsched', hspc'⟩ := ih hblock hsched (by omega)
    refine ⟨t, ?_, hblock', hsched', by omega⟩
    rw [List.length_cons, steps_succ, hu, andThen_next, ht]

/-- Settles O27: the turns before the last take the block to step 80, whatever the host does at its own, and the last
one is the finalize tick. -/
theorem blockUnderAnyInterleaving : Obligations.BlockUnderAnyInterleaving := by
  intro s l hinv hb hprog hsched hcount
  obtain ⟨u, hu, hblock, hlast, hspc⟩ :=
    (runsBlock_of_coreInv hinv hb hprog).steps l [.sequencer] hsched (Nat.le_of_eq hcount)
  have h80 : u.spc = 80#7 := BitVec.eq_of_toNat_eq (by rw [hspc, hcount]; rfl)
  have hfinal : Machine.step u = .next (u.setSchedule []).finishBlock := by
    rw [step_of_schedule_cons hlast]
    exact sequencerTurn_finalize hblock.busy h80
  refine ⟨_, by rw [steps_succ_of_steps hu, hfinal], rfl, rfl, rfl, ?_, ?_, rfl⟩
  · exact (hblock.setSchedule []).finishBlock_out h80
  · rw [State.finishBlock_S, State.setSchedule_S, hblock.matrix]

end

end Sys2Proof.Machine

/-! # The state family (10_state): the invariant, who writes each register, and what the bus reads of it -/

namespace Sys2Proof.Machine

/-! ### Everything one step can do, case by case

`StepEffect` with the effect of the instruction taken apart: no case is left that a command or a tick cannot reach. -/

/-- What a step from `s` does to `u`, which is `s` with the turn and the action taken off their lists. -/
inductive StepOutcome (s u : State) : State → Prop where
  | idle : StepOutcome s u u
  | read (v : Word) : StepOutcome s u (u.pushReply v)
  | poll (v : Word) (a : HostAction) : StepOutcome s u ((u.pushReply v).pushAction a)
  | reset (hr : TakesReset s) : StepOutcome s u u.resetRegisters
  | stored (i : BitVec 6) (v : Word) (hw : takenAction s = some (.write i v)) :
      StepOutcome s u (writeReg (regAt i) v u)
  /-- A NOP or a rejected word: ERR and nothing else. -/
  | errOnly (v : Word) (hw : WritesCmd s v) (c : ErrCode) : StepOutcome s u (u.setErr c)
  | built (hw : WritesInit s) (hb : u.busy = false) (lo hi : Word) :
      StepOutcome s u ((u.buildMatrix lo hi).setErr .ok)
  | started (v : Word) (hw : WritesCmd s v) (hd : decodeCmd v = .ok .nextBlock) (hv : u.stateValid = true) :
      StepOutcome s u (u.startBlock.setErr .ok)
  | mixed (v : Word) (hw : WritesCmd s v) (hd : decodeCmd v = .ok .qr) :
      StepOutcome s u (u.runMixer.setErr .ok)
  | ticked (ht : TakesTick s s.spc) (hb : u.busy = true) (hlt : u.spc < 80#7) :
      StepOutcome s u (u.quarterTick (slotAt u.spc.toNat))
  | finished (ht : TakesTick s 80#7) (hb : u.busy = true) (h80 : u.spc = 80#7) : StepOutcome s u u.finishBlock

section
variable {s t u : State} {i : Instr} {v : Word}

theorem Effect.command_outcome (e : Effect i u t) (hw : WritesCmd s v) (hd : decodeCmd v = .ok i) :
    StepOutcome s u t := by
  have hi := decodeCmd_isCommand hd
  cases e with
  | rejected _ c => exact .errOnly v hw c
  | nop => exact .errOnly v hw .ok
  | built hinit hb lo hi' =>
    have hw' : WritesInit s := by
      obtain ⟨k, n, rfl | rfl⟩ := hinit
      · exact ⟨v, k, n, hw, .inl hd⟩
      · exact ⟨v, k, n, hw, .inr hd⟩
    exact .built hw' hb lo hi'
  | started hnext _ hv => exact .started v hw (hnext ▸ hd) hv
  | mixed hqr => exact .mixed v hw (hqr ▸ hd)
  | ticked hi' => simp [hi'] at hi
  | finished hfin => subst hfin; cases hi

theorem Effect.tick_outcome (e : Effect i u t) (hi : isCommand i = false) (ht : TakesTick s s.spc)
    (hspc : u.spc = s.spc) : StepOutcome s u t := by
  cases e with
  | rejected hi' => simp [hi'] at hi
  | nop hi' | started hi' | mixed hi' => subst hi'; cases hi
  | built hinit => obtain ⟨k, n, rfl | rfl⟩ := hinit <;> cases hi
  | ticked _ _ hb hlt => exact .ticked ht hb hlt
  | finished _ hb h80 =>
    have ht80 : TakesTick s 80#7 := ⟨ht.1, ht.2.1, hspc ▸ h80⟩
    exact .finished ht80 hb h80

theorem StepEffect.outcome (e : StepEffect s u t) (hspc : u.spc = s.spc) : StepOutcome s u t := by
  cases e with
  | idle => exact .idle
  | reset hr => exact .reset hr
  | read v => exact .read v
  | poll v a => exact .poll v a
  | command v i hw hd _ _ he => exact he.command_outcome hw hd
  | rejected v hw c => exact .errOnly v hw c
  | stored i v hw => exact .stored i v hw
  | tick i hn hb _ hi _ he => exact he.tick_outcome hi ⟨hn, hb, rfl⟩ hspc

/-- Everything a step can do when it answers a next state. -/
theorem step_outcome (h : step s = .next t) : ∃ p l, StepOutcome s ((s.setSchedule l).setProgram p) t := by
  obtain ⟨p, l, e⟩ := step_effect h
  exact ⟨p, l, e.outcome rfl⟩

end

/-! ### The counter is one 64-bit number (R175) -/

theorem toNat_append_words (hi lo : Word) : (hi ++ lo).toNat = hi.toNat * 2 ^ 32 + lo.toNat := by
  rw [BitVec.toNat_append, Nat.shiftLeft_eq, Nat.mul_comm, ← Nat.two_pow_add_eq_or_of_lt lo.isLt]

/-- The word-wise increment of S[13] ‖ S[12] is the addition of one (R175). -/
theorem counterOf_incrementCounter (m : Vector Word 16) : counterOf (incrementCounter m) = counterOf m + 1 := by
  simp only [counterOf, incrementCounter_lo, incrementCounter_hi, counterLo, counterHi]
  generalize m[12] = lo
  generalize m[13] = hi
  apply BitVec.eq_of_toNat_eq
  rw [BitVec.toNat_add, toNat_append_words, toNat_append_words]
  split
  · bv_omega
  · bv_omega

@[simp] theorem withCounter_lo (m : Vector Word 16) (c : BitVec 64) : (withCounter m c)[12] = c.extractLsb' 0 32 := by
  simp [withCounter]

@[simp] theorem withCounter_hi (m : Vector Word 16) (c : BitVec 64) : (withCounter m c)[13] = c.extractLsb' 32 32 := by
  simp [withCounter]

theorem withCounter_other (m : Vector Word 16) (c : BitVec 64) (i : Nat) (hi : i < 16) (h12 : i ≠ 12) (h13 : i ≠ 13) :
    (withCounter m c)[i] = m[i] := by
  simp only [withCounter]
  rw [Vector.getElem_set_ne _ _ (Ne.symm h13), Vector.getElem_set_ne _ _ (Ne.symm h12)]

theorem counterOf_lo (m : Vector Word 16) : (counterOf m).extractLsb' 0 32 = m[12] :=
  BitVec.extractLsb'_append_eq_right

theorem counterOf_hi (m : Vector Word 16) : (counterOf m).extractLsb' 32 32 = m[13] :=
  BitVec.extractLsb'_append_eq_left

/-- Taking the counter one back undoes the increment, whatever the counter was. -/
theorem withCounter_incrementCounter (m : Vector Word 16) :
    withCounter (incrementCounter m) (counterOf (incrementCounter m) - 1) = m := by
  rw [counterOf_incrementCounter, BitVec.add_sub_cancel]
  ext i hi
  by_cases h12 : i = 12
  · subst h12; rw [withCounter_lo, counterOf_lo]
  · by_cases h13 : i = 13
    · subst h13; rw [withCounter_hi, counterOf_hi]
    · rw [withCounter_other _ _ i hi h12 h13, incrementCounter_other _ i hi h12 h13]

/-! ### The invariant (R24, R26, R27, R28, R125, R178) -/

section
variable {s t u : State}

/-- A state that holds the same block and no new CTR_WRAP meets the invariant too. -/
theorem CoreInv.of_sameBlock (h : CoreInv s) (e : SameBlock s t) (hwrap : s.ctrWrap = false → t.ctrWrap = false) :
    CoreInv t := by
  obtain ⟨hspc, hblock, hconst, hnothing, hout⟩ := h
  simp only [CoreInv, SpcInRange, BlockInProgress, ConstantsHeld, NothingBeforeInit, OutHoldsBlock, e.S, e.W, e.spc,
    e.out, e.busy, e.stateValid, e.outValid]
  refine ⟨hspc, hblock, hconst, fun hv => ?_, hout⟩
  obtain ⟨hS, hO, hOV, hW⟩ := hnothing hv
  exact ⟨hS, hO, hOV, hwrap hW⟩

/-- No bus write outside CMD sets CTR_WRAP (R35). -/
theorem writeReg_ctrWrap_false (r : Reg) (v : Word) (h : s.ctrWrap = false) : (writeReg r v s).ctrWrap = false := by
  cases r with
  | status => simp [writeReg, h]
  | _ => exact h

theorem CoreInv.writeReg (h : CoreInv s) (r : Reg) (v : Word) : CoreInv (writeReg r v s) :=
  h.of_sameBlock (writeReg_sameBlock r v s) (writeReg_ctrWrap_false r v)

/-- The invariant right after reset, whatever stands on the host's side. -/
theorem coreInv_resetRegisters (s : State) : CoreInv s.resetRegisters :=
  ⟨spcInRange_of_zero rfl, nofun, nofun, fun _ => ⟨rfl, rfl, rfl, rfl⟩, nofun⟩

theorem CoreInv.buildMatrix (h : CoreInv s) (hb : s.busy = false) (lo hi : Word) : CoreInv (s.buildMatrix lo hi) := by
  obtain ⟨hspc, -, -, -, -⟩ := h
  exact ⟨hspc, fun hb' => by simp [hb] at hb', fun _ => ⟨rfl, rfl, rfl, rfl⟩, nofun, nofun⟩

theorem CoreInv.startBlock (h : CoreInv s) (hv : s.stateValid = true) : CoreInv s.startBlock := by
  obtain ⟨-, -, hconst, -, -⟩ := h
  exact ⟨spcInRange_of_zero rfl, fun _ => ⟨hv, rfl, rfl⟩, hconst, fun hv' => by simp [hv] at hv', nofun⟩

theorem CoreInv.quarterTick (h : CoreInv s) (hb : s.busy = true) (hlt : s.spc < 80#7) :
    CoreInv (s.quarterTick (slotAt s.spc.toNat)) := by
  obtain ⟨-, hblock, hconst, -, -⟩ := h
  obtain ⟨hv, hov, hW⟩ := hblock hb
  have hspc : s.spc + 1 ≤ 80#7 := by bv_omega
  have hnext : (s.spc + 1).toNat = s.spc.toNat + 1 := by bv_omega
  refine ⟨⟨hspc, fun hb' => by simp [hb] at hb'⟩, fun _ => ⟨hv, hov, ?_⟩, hconst, fun hv' => by simp [hv] at hv',
    fun ho => by simp [hov] at ho⟩
  rw [State.quarterTick_W, State.quarterTick_spc, hnext, State.quarterTick_S, afterTicks_succ, hW]

/-- The finalize tick: OUT is the block of the counter before the increment, W its permuted matrix (R172, R175, R177). -/
theorem CoreInv.finishBlock (h : CoreInv s) (hb : s.busy = true) (h80 : s.spc = 80#7) : CoreInv s.finishBlock := by
  obtain ⟨-, hblock, hconst, -, -⟩ := h
  obtain ⟨hv, -, hW⟩ := hblock hb
  have hperm : s.W = permute s.S := by rw [hW, h80]; exact afterTicks_eighty s.S
  refine ⟨spcInRange_of_zero rfl, nofun, fun _ => ?_, fun hv' => by simp [hv] at hv', fun _ => ?_⟩
  · simpa [incrementCounter_other] using hconst hv
  · rw [State.finishBlock_S, withCounter_incrementCounter, State.finishBlock_W, State.finishBlock_out, blockWords,
      hperm]
    exact ⟨rfl, rfl⟩

theorem StepOutcome.keeps_coreInv (e : StepOutcome s u t) (h : CoreInv u) : CoreInv t := by
  cases e with
  | idle | read | poll | errOnly | mixed => exact h
  | reset => exact coreInv_resetRegisters u
  | stored i v => exact h.writeReg _ v
  | built _ hb lo hi => exact h.buildMatrix hb lo hi
  | started _ _ _ hv => exact h.startBlock hv
  | ticked _ hb hlt => exact h.quarterTick hb hlt
  | finished _ hb h80 => exact h.finishBlock hb h80

end

/-- Settles O46: the invariant does not speak of the host's side, and each case of a step keeps it. -/
theorem stepKeepsInvariant : Obligations.StepKeepsInvariant := by
  intro s t hinv h
  obtain ⟨p, l, e⟩ := step_outcome h
  exact e.keeps_coreInv hinv

/-- Settles O45: the reset state is what reset makes of itself. -/
theorem invariantAtReset : Obligations.InvariantAtReset := coreInv_resetRegisters State.reset

/-- Settles O47: under the invariant spc is at most 80, and then every step answers a next state. -/
theorem stepNeverStopsUnderInvariant : Obligations.StepNeverStopsUnderInvariant := fun _ hinv =>
  step_total hinv.1.1

/-! ### Who writes the state matrix, OUT, ERR and the flags (R21, R25 to R30) -/

section
variable {s t u : State} {i : BitVec 6} {v : Word}

theorem WritesInit.writesCmd (h : WritesInit s) : ∃ v, WritesCmd s v := by
  obtain ⟨v, -, -, hw, -⟩ := h
  exact ⟨v, hw⟩

@[simp] theorem writeReg_err (r : Reg) (v : Word) (s : State) : (writeReg r v s).err = s.err := by cases r <;> rfl

/-- A register write clears CTR_WRAP only as a write to STATUS with bit 3 set (R35). -/
theorem writeReg_clears_ctrWrap {r : Reg} (hs : s.ctrWrap = true) (ht : (writeReg r v s).ctrWrap = false) :
    r = .status ∧ v.getLsbD 3 = true := by
  cases r with
  | status => exact ⟨rfl, by simpa [writeReg, hs] using ht⟩
  | _ => exact absurd (hs.symm.trans ht) (by decide)

/-- A register of the map but the reserved ones is at its own word index only (R55). -/
theorem regIndex_regAt : ∀ i : BitVec 6, regAt i ≠ .reserved → regIndex (regAt i) = i := by decide

theorem eq_regIndex_of_regAt {r : Reg} (h : regAt i = r) (hr : r ≠ .reserved) : i = regIndex r := by
  subst h
  exact (regIndex_regAt i hr).symm

theorem counterWraps_iff (lo hi : Word) :
    counterWraps lo hi = true ↔ lo = 0xFFFFFFFF#32 ∧ hi = 0xFFFFFFFF#32 := by
  simp [counterWraps]

end

/-- Settles O49: only the three writers of S are left once the cases that keep S are closed. -/
theorem writersOfStateMatrix : Obligations.WritersOfStateMatrix := by
  intro s t h hne
  obtain ⟨p, l, e⟩ := step_outcome h
  cases e with
  | idle | read | poll | errOnly | started | mixed | ticked => exact absurd rfl hne
  | stored i v => exact absurd (writeReg_sameBlock _ v _).S hne
  | reset hr => exact .inl hr
  | built hw => exact .inr (.inl hw)
  | finished ht => exact .inr (.inr ⟨ht, incrementCounter_other s.S⟩)

/-- Settles O50, as for S. -/
theorem writersOfOut : Obligations.WritersOfOut := by
  intro s t h hne
  obtain ⟨p, l, e⟩ := step_outcome h
  cases e with
  | idle | read | poll | errOnly | started | mixed | ticked => exact absurd rfl hne
  | stored i v => exact absurd (writeReg_sameBlock _ v _).out hne
  | reset hr => exact .inl hr
  | built hw => exact .inr (.inl hw)
  | finished ht => exact .inr (.inr ht)

/-- Settles O51: every command writes ERR, and a tick or another register's write keeps it. -/
theorem writersOfErr : Obligations.WritersOfErr := by
  intro s t h hne
  obtain ⟨p, l, e⟩ := step_outcome h
  cases e with
  | idle | read | poll | ticked | finished => exact absurd rfl hne
  | stored i v => exact absurd (writeReg_err _ v _) hne
  | reset hr => exact .inl hr
  | errOnly v hw | started v hw | mixed v hw => exact .inr ⟨v, hw⟩
  | built hw => exact .inr hw.writesCmd

section
variable {s t : State}

/-- CTR_WRAP is set only by the finalize tick whose counter wraps (R29, R175). -/
theorem step_sets_ctrWrap (h : step s = .next t) (hs : s.ctrWrap = false) (ht : t.ctrWrap = true) :
    TakesTick s 80#7 ∧ counterWraps s.S[12] s.S[13] = true := by
  obtain ⟨p, l, e⟩ := step_outcome h
  cases e with
  | idle | read | poll | errOnly | started | mixed | ticked => exact absurd (hs.symm.trans ht) (by decide)
  | reset | built => cases ht
  | stored i v => simp [writeReg_ctrWrap_false, hs] at ht
  | finished htick => exact ⟨htick, by simpa [hs] using ht⟩

theorem step_clears_ctrWrap (h : step s = .next t) (hs : s.ctrWrap = true) (ht : t.ctrWrap = false) :
    TakesReset s ∨ WritesInit s ∨ ∃ v : Word, takenAction s = some (.write 0x02#6 v) ∧ v.getLsbD 3 = true := by
  obtain ⟨p, l, e⟩ := step_outcome h
  cases e with
  | idle | read | poll | errOnly | started | mixed | ticked => exact absurd (hs.symm.trans ht) (by decide)
  | reset hr => exact .inl hr
  | built hw => exact .inr (.inl hw)
  | stored i v hw =>
    obtain ⟨hreg, hbit⟩ := writeReg_clears_ctrWrap (s := (s.setSchedule l).setProgram p) hs ht
    obtain rfl : i = 0x02#6 := eq_regIndex_of_regAt hreg (by decide)
    exact .inr (.inr ⟨v, hw, hbit⟩)
  | finished => simp [hs] at ht

/-- Settles O52 from the two directions. -/
theorem ctrWrapIsSticky : Obligations.CtrWrapIsSticky := fun _ _ h =>
  ⟨fun hs ht => (step_sets_ctrWrap h hs ht).imp_right (counterWraps_iff _ _).1, step_clears_ctrWrap h⟩

/-- BUSY changes only by an accepted NEXT_BLOCK, by the finalize tick and by reset (R26). -/
theorem step_busy_changed (h : step s = .next t) (hne : t.busy ≠ s.busy) :
    (t.busy = true ∧ ∃ v, WritesCmd s v ∧ decodeCmd v = .ok .nextBlock ∧ s.stateValid = true) ∨
    (t.busy = false ∧ (TakesReset s ∨ TakesTick s 80#7)) := by
  obtain ⟨p, l, e⟩ := step_outcome h
  cases e with
  | idle | read | poll | errOnly | built | mixed | ticked => exact absurd rfl hne
  | stored i v => exact absurd (writeReg_busy _ v _) hne
  | reset hr => exact .inr ⟨rfl, .inl hr⟩
  | started v hw hd hv => exact .inl ⟨rfl, v, hw, hd, hv⟩
  | finished ht => exact .inr ⟨rfl, .inr ht⟩

/-- STATE_VALID changes only by INIT or INIT_CTR and by reset (R27). -/
theorem step_stateValid_changed (h : step s = .next t) (hne : t.stateValid ≠ s.stateValid) :
    (t.stateValid = true ∧ WritesInit s) ∨ (t.stateValid = false ∧ TakesReset s) := by
  obtain ⟨p, l, e⟩ := step_outcome h
  cases e with
  | idle | read | poll | errOnly | started | mixed | ticked | finished => exact absurd rfl hne
  | stored i v => exact absurd (writeReg_sameBlock _ v _).stateValid hne
  | reset hr => exact .inr ⟨rfl, hr⟩
  | built hw => exact .inl ⟨rfl, hw⟩

/-- OUT_VALID changes only by the finalize tick, by INIT, INIT_CTR or NEXT_BLOCK, and by reset (R28). -/
theorem step_outValid_changed (h : step s = .next t) (hne : t.outValid ≠ s.outValid) :
    (t.outValid = true ∧ TakesTick s 80#7) ∨
    (t.outValid = false ∧
      (TakesReset s ∨ WritesInit s ∨ ∃ v, WritesCmd s v ∧ decodeCmd v = .ok .nextBlock)) := by
  obtain ⟨p, l, e⟩ := step_outcome h
  cases e with
  | idle | read | poll | errOnly | mixed | ticked => exact absurd rfl hne
  | stored i v => exact absurd (writeReg_sameBlock _ v _).outValid hne
  | reset hr => exact .inr ⟨rfl, .inl hr⟩
  | built hw => exact .inr ⟨rfl, .inr (.inl hw)⟩
  | started v hw hd => exact .inr ⟨rfl, .inr (.inr ⟨v, hw, hd⟩)⟩
  | finished ht => exact .inl ⟨rfl, ht⟩

/-- Settles O53: each flag's change, read in its two directions. -/
theorem writersOfFlags : Obligations.WritersOfFlags := by
  intro s t h
  refine ⟨fun hs ht => ?_, fun hs ht => ?_, fun hs ht => ?_, fun hs ht => ?_, fun hs ht => ?_, fun hs ht => ?_⟩
  · simpa [hs, ht] using step_busy_changed h
  · simpa [hs, ht] using step_busy_changed h
  · simpa [hs, ht] using step_stateValid_changed h
  · simpa [hs, ht] using step_stateValid_changed h
  · simpa [hs, ht] using step_outValid_changed h
  · simpa [hs, ht] using step_outValid_changed h

end

/-! ### Who writes the staging registers, QOUT, W and spc (R23, R24, R31 to R34, R241) -/

/-- What the staging register `r` holds; 0 for a register of the map that no bus write stores into. -/
def stagingWord (r : Reg) (s : State) : Word :=
  match r with
  | .key i => s.key[i]
  | .nonce j => s.nonce[j]
  | .ctrInLo => s.ctrInLo
  | .ctrInHi => s.ctrInHi
  | .qin j => s.qin[j]
  | _ => 0

section
variable {s t : State} {r q : Reg} {v : Word}

/-- Writing another register leaves a staging register alone (R53). -/
theorem stagingWord_writeReg_ne (h : q ≠ r) : stagingWord r (writeReg q v s) = stagingWord r s := by
  cases q with
  | key i =>
    cases r with
    | key k => exact Vector.getElem_set_ne i.isLt k.isLt fun hik => h (congrArg Reg.key (Fin.ext hik))
    | _ => rfl
  | nonce i =>
    cases r with
    | nonce k => exact Vector.getElem_set_ne i.isLt k.isLt fun hik => h (congrArg Reg.nonce (Fin.ext hik))
    | _ => rfl
  | qin i =>
    cases r with
    | qin k => exact Vector.getElem_set_ne i.isLt k.isLt fun hik => h (congrArg Reg.qin (Fin.ext hik))
    | _ => rfl
  | ctrInLo =>
    cases r with
    | ctrInLo => exact absurd rfl h
    | _ => rfl
  | ctrInHi =>
    cases r with
    | ctrInHi => exact absurd rfl h
    | _ => rfl
  | _ => cases r <;> rfl

/-- A register write that changes what a staging register holds is that register's own, and stores its word (R53). -/
theorem writeReg_changes_stagingWord (h : stagingWord r (writeReg q v s) ≠ stagingWord r s) :
    q = r ∧ r ≠ .reserved ∧ stagingWord r (writeReg q v s) = v := by
  obtain rfl : q = r := by
    by_contra hqr
    exact h (stagingWord_writeReg_ne hqr)
  cases q with
  | key i | nonce i | qin i => exact ⟨rfl, nofun, Vector.getElem_set_self i.isLt⟩
  | ctrInLo | ctrInHi => exact ⟨rfl, nofun, rfl⟩
  | _ => exact absurd rfl h

/-- Reset aside, a staging register changes only by the bus write of its new word at its own offset (R31 to R34). -/
theorem step_changes_stagingWord (h : step s = .next t) (hnr : ¬ TakesReset s)
    (hne : stagingWord r t ≠ stagingWord r s) :
    takenAction s = some (.write (regIndex r) (stagingWord r t)) := by
  obtain ⟨p, l, e⟩ := step_outcome h
  cases e with
  | idle | read | poll | errOnly | built | started | mixed | ticked | finished => exact absurd rfl hne
  | reset hr => exact absurd hr hnr
  | stored i v hw =>
    obtain ⟨hreg, hres, hv⟩ := writeReg_changes_stagingWord (s := (s.setSchedule l).setProgram p) hne
    rw [hw, hv, eq_regIndex_of_regAt hreg hres]

theorem step_qout_changed (h : step s = .next t) (hnr : ¬ TakesReset s) (hne : t.qout ≠ s.qout) :
    ∃ v, WritesCmd s v ∧ decodeCmd v = .ok .qr := by
  obtain ⟨p, l, e⟩ := step_outcome h
  cases e with
  | idle | read | poll | errOnly | built | started | ticked | finished => exact absurd rfl hne
  | reset hr => exact absurd hr hnr
  | stored i v => exact absurd (writeReg_sameBlock _ v _).qout hne
  | mixed v hw hd => exact ⟨v, hw, hd⟩

theorem step_sequencer_changed (h : step s = .next t) (hnr : ¬ TakesReset s) (hne : t.W ≠ s.W ∨ t.spc ≠ s.spc) :
    TakesTick s s.spc ∨ ∃ v, WritesCmd s v ∧ decodeCmd v = .ok .nextBlock := by
  obtain ⟨p, l, e⟩ := step_outcome h
  cases e with
  | idle | read | poll | errOnly | built | mixed => simp at hne
  | reset hr => exact absurd hr hnr
  | stored i v => simp [(writeReg_sameBlock _ v _).W] at hne
  | started v hw hd => exact .inr ⟨v, hw, hd⟩
  | ticked ht => exact .inl ht
  | finished ht =>
    obtain ⟨hturn, hb, -⟩ := ht
    exact .inl ⟨hturn, hb, rfl⟩

/-- Settles O54: the five kinds of staging register are one lemma at five registers. -/
theorem writersOfStagingAndSequencer : Obligations.WritersOfStagingAndSequencer := fun _ _ h hnr =>
  ⟨fun i hi => step_changes_stagingWord (r := .key ⟨i, hi⟩) h hnr,
    fun j hj => step_changes_stagingWord (r := .nonce ⟨j, hj⟩) h hnr,
    step_changes_stagingWord (r := .ctrInLo) h hnr, step_changes_stagingWord (r := .ctrInHi) h hnr,
    fun j hj => step_changes_stagingWord (r := .qin ⟨j, hj⟩) h hnr,
    step_qout_changed h hnr, step_sequencer_changed h hnr⟩

end

/-! ### Frames of the instructions (R21, R34, R126, R147, R166, R177) -/

namespace Effect

variable {i : Instr} {s t : State}

theorem keeps_staging (e : Effect i s t) :
    t.key = s.key ∧ t.nonce = s.nonce ∧ t.ctrInLo = s.ctrInLo ∧ t.ctrInHi = s.ctrInHi ∧ t.qin = s.qin := by
  cases e <;> exact ⟨rfl, rfl, rfl, rfl, rfl⟩

theorem keeps_host (e : Effect i s t) :
    t.hostProgram = s.hostProgram ∧ t.schedule = s.schedule ∧ t.replies = s.replies := by
  cases e <;> exact ⟨rfl, rfl, rfl⟩

theorem keeps_qout (e : Effect i s t) (hi : i ≠ .qr) : t.qout = s.qout := by
  cases e with
  | mixed hqr => exact absurd hqr hi
  | _ => rfl

theorem keeps_stateValid (e : Effect i s t) (hinit : ∀ k n, i ≠ .init k n) (hctr : ∀ k n, i ≠ .initCtr k n) :
    t.stateValid = s.stateValid := by
  cases e with
  | built hi =>
    obtain ⟨k, n, rfl | rfl⟩ := hi
    · exact absurd rfl (hinit k n)
    · exact absurd rfl (hctr k n)
  | _ => rfl

theorem keeps_results (e : Effect i s t) (hinit : ∀ k n, i ≠ .init k n) (hctr : ∀ k n, i ≠ .initCtr k n)
    (hfin : i ≠ .finalize) : t.S = s.S ∧ t.out = s.out ∧ t.ctrWrap = s.ctrWrap := by
  cases e with
  | built hi =>
    obtain ⟨k, n, rfl | rfl⟩ := hi
    · exact absurd rfl (hinit k n)
    · exact absurd rfl (hctr k n)
  | finished hi => exact absurd hi hfin
  | _ => exact ⟨rfl, rfl, rfl⟩

/-- A command other than NEXT_BLOCK leaves the sequencer alone. -/
theorem keeps_sequencer (e : Effect i s t) (hc : isCommand i = true) (hnext : i ≠ .nextBlock) :
    t.W = s.W ∧ t.spc = s.spc ∧ t.busy = s.busy := by
  cases e with
  | started hi => exact absurd hi hnext
  | ticked hi => simp [hi] at hc
  | finished hi => subst hi; cases hc
  | _ => exact ⟨rfl, rfl, rfl⟩

/-- A micro-step other than FINALIZE leaves the completion flags alone. -/
theorem keeps_completion (e : Effect i s t) (hc : isCommand i = false) (hfin : i ≠ .finalize) :
    t.busy = s.busy ∧ t.outValid = s.outValid := by
  cases e with
  | started hi => subst hi; cases hc
  | built hi => obtain ⟨k, n, rfl | rfl⟩ := hi <;> cases hc
  | finished hi => exact absurd hi hfin
  | _ => exact ⟨rfl, rfl⟩

theorem finalize_keeps_W (e : Effect .finalize s t) : t.W = s.W := by
  cases e with
  | started hi => cases hi
  | ticked _ hfin => exact absurd rfl hfin
  | _ => rfl

theorem nop_or_qr_keeps_outValid (e : Effect i s t) (hi : i = .nop ∨ i = .qr) : t.outValid = s.outValid := by
  cases e with
  | built hi' => obtain ⟨k, n, rfl | rfl⟩ := hi' <;> simp at hi
  | started hi' | finished hi' => subst hi'; simp at hi
  | _ => rfl

theorem keeps_err (e : Effect i s t) (hc : isCommand i = false) : t.err = s.err := by
  cases e with
  | rejected hi => simp [hi] at hc
  | nop hi | started hi | mixed hi => subst hi; cases hc
  | built hi => obtain ⟨k, n, rfl | rfl⟩ := hi <;> cases hc
  | ticked | finished => rfl

/-- ERR is written by the five commands only. -/
theorem err_writer (e : Effect i s t) :
    (∃ k n, i = .init k n ∨ i = .initCtr k n) ∨ i = .nop ∨ i = .qr ∨ i = .nextBlock ∨ t.err = s.err := by
  cases i with
  | init k n => exact .inl ⟨k, n, .inl rfl⟩
  | initCtr k n => exact .inl ⟨k, n, .inr rfl⟩
  | nop => exact .inr (.inl rfl)
  | qr => exact .inr (.inr (.inl rfl))
  | nextBlock => exact .inr (.inr (.inr (.inl rfl)))
  | _ => exact .inr (.inr (.inr (.inr (e.keeps_err rfl))))

end Effect

/-- Settles O55: each clause is one frame of the instruction's effect. -/
theorem instructionFrames : Obligations.InstructionFrames := by
  intro i s t h
  have e := exec_effect h
  obtain ⟨hkey, hnonce, hlo, hhi, hqin⟩ := e.keeps_staging
  obtain ⟨hprog, hsched, hrep⟩ := e.keeps_host
  refine ⟨hkey, hnonce, hlo, hhi, hqin, hprog, hsched, hrep, e.keeps_qout,
    fun hinit hctr => ⟨e.keeps_stateValid hinit hctr, e.keeps_results hinit hctr⟩, ?_, ?_, ?_,
    e.nop_or_qr_keeps_outValid, e.err_writer⟩
  · rintro (⟨k, n, rfl | rfl⟩ | rfl | rfl) <;> exact e.keeps_sequencer rfl nofun
  · rintro ⟨r, rfl | rfl | rfl | rfl | rfl | rfl | rfl | rfl⟩ <;> exact e.keeps_completion rfl nofun
  · rintro rfl
    exact e.finalize_keeps_W

/-! ### What the bus reads of the state (R22, R31, R35, R36, R40, R214) -/

section
variable {s t : State}

/-- The read column of R55 names no register outside the window. -/
theorem readReg_congr (h : SameWindow s t) (r : Reg) : readReg r s = readReg r t := by
  obtain ⟨h12, h13, hspc, hout, hbusy, hvalid, houtValid, hwrap, herr, hnonce, hlo, hhi, hqin, hqout⟩ := h
  cases r with
  | id | cmd | key | reserved => rfl
  | status => simp only [readReg, statusWord, hbusy, hvalid, houtValid, hwrap, herr]
  | seq => simp only [readReg, hspc]
  | nonce j => simp only [readReg, hnonce]
  | ctrInLo => exact hlo
  | ctrInHi => exact hhi
  | ctrLo => exact h12
  | ctrHi => exact h13
  | out i => simp only [readReg, hout]
  | qin j => simp only [readReg, hqin]
  | qout j => simp only [readReg, hqout]

end

/-- Settles O35: a bus read is the read of one register of the map. -/
theorem keyMaterialIsNotReadable : Obligations.KeyMaterialIsNotReadable := fun _ _ h i => readReg_congr h (regAt i)

/-- Settles O38: a replicated zero at every index, and the map's first entry for ID. -/
theorem resetValues : Obligations.ResetValues := by
  refine ⟨fun i hi => ?_, rfl, rfl, rfl, rfl, rfl, rfl, fun i hi => ?_, fun j hj => ?_, rfl, rfl, fun j hj => ?_,
    fun s => ⟨rfl, fun v => rfl⟩⟩
  · exact ⟨Vector.getElem_replicate hi, Vector.getElem_replicate hi, Vector.getElem_replicate hi⟩
  · exact Vector.getElem_replicate hi
  · exact Vector.getElem_replicate hj
  · exact ⟨Vector.getElem_replicate hj, Vector.getElem_replicate hj⟩

/-! ### The fields of STATUS (R35) -/

section
variable (s : State)

theorem statusWord_flags :
    (statusWord s).getLsbD 0 = s.busy ∧ (statusWord s).getLsbD 1 = s.stateValid ∧
    (statusWord s).getLsbD 2 = s.outValid ∧ (statusWord s).getLsbD 3 = s.ctrWrap := by
  simp only [statusWord, BitVec.getLsbD_append]
  simp

theorem statusWord_getLsbD_reserved {i : Nat} (hi : i < 4) : (statusWord s).getLsbD (4 + i) = false := by
  simp only [statusWord, BitVec.getLsbD_append, BitVec.getLsbD_zero]
  interval_cases i <;> simp

/-- From bit 8 up STATUS is the error number, and zero where that has no bit. -/
theorem statusWord_getLsbD_err (i : Nat) : (statusWord s).getLsbD (8 + i) = (errBits s.err).getLsbD i := by
  have hbit : 8 + i - 1 - 1 - 1 - 1 - 4 = i := by omega
  simp (disch := omega) only [statusWord, BitVec.getLsbD_append, BitVec.getLsbD_zero, hbit, if_neg]
  split
  · rfl
  · exact (BitVec.getLsbD_of_ge _ _ (by omega)).symm

theorem statusWord_err : (statusWord s).extractLsb' 8 4 = errBits s.err := by
  refine BitVec.eq_of_getLsbD_eq fun i hi => ?_
  rw [BitVec.getLsbD_extractLsb', statusWord_getLsbD_err, decide_eq_true hi, Bool.true_and]

theorem statusWord_reserved_low : (statusWord s).extractLsb' 4 4 = 0#4 := by
  refine BitVec.eq_of_getLsbD_eq fun i hi => ?_
  rw [BitVec.getLsbD_extractLsb', statusWord_getLsbD_reserved s hi, Bool.and_false, BitVec.getLsbD_zero]

theorem statusWord_reserved_high : (statusWord s).extractLsb' 12 20 = 0#20 := by
  refine BitVec.eq_of_getLsbD_eq fun i hi => ?_
  have hbit : 12 + i = 8 + (4 + i) := by omega
  rw [BitVec.getLsbD_extractLsb', hbit, statusWord_getLsbD_err, BitVec.getLsbD_of_ge _ _ (by omega), Bool.and_false,
    BitVec.getLsbD_zero]

theorem clearWrap_of_bit_set {v : Word} (h : v.getLsbD 3 = true) : s.clearWrap v = { s with ctrWrap := false } := by
  rw [State.clearWrap, h, Bool.not_true, Bool.and_false]

theorem clearWrap_of_bit_clear {v : Word} (h : v.getLsbD 3 = false) : s.clearWrap v = s := by
  rw [State.clearWrap, h, Bool.not_false, Bool.and_true]

end

/-- Settles O34: offset 0x08 reads the STATUS word, field by field, and writes `clearWrap`. -/
theorem statusFields : Obligations.StatusFields := by
  intro s
  have hread : busRead 0x02#6 s = statusWord s := rfl
  have hwrite : ∀ v, hostAct (.write 0x02#6 v) s = .next (s.clearWrap v) := fun _ => rfl
  obtain ⟨hbusy, hvalid, houtValid, hwrap⟩ := statusWord_flags s
  rw [hread]
  refine ⟨hbusy, hvalid, houtValid, hwrap, statusWord_reserved_low s, ?_, statusWord_reserved_high s,
    fun v hv => ?_, fun v hv => ?_, rfl, by decide⟩
  · rw [statusWord_err]
    cases s.err <;> rfl
  · rw [hwrite, clearWrap_of_bit_set s hv]
  · rw [hwrite, clearWrap_of_bit_clear s hv]

end Sys2Proof.Machine

/-! # The memory family (20_memory): the map, what a bus access does at every offset, and the bytes of the window -/

namespace Sys2Proof.Machine

/-! ### The map (R55): each register at its word index, the reserved and the read-only ones in their ranges -/

/-- The inverse of `regIndex_regAt`. -/
theorem regAt_regIndex {r : Reg} (hr : r ≠ .reserved) : regAt (regIndex r) = r := by
  cases r with
  | key i => revert i; decide
  | nonce j => revert j; decide
  | out i => revert i; decide
  | qin j => revert j; decide
  | qout j => revert j; decide
  | reserved => exact absurd rfl hr
  | _ => rfl

theorem regAt_eq_reserved : ∀ i : BitVec 6,
    (18 ≤ i.toNat ∧ i.toNat ≤ 31) ∨ 56 ≤ i.toNat → regAt i = .reserved := by decide

/-- CTR_LO, CTR_HI and OUT stand at 0x40..0x47 and 0x80..0xBF only. -/
theorem regAt_result : ∀ i : BitVec 6, (regAt i = .ctrLo ∨ regAt i = .ctrHi ∨ ∃ k, regAt i = .out k) →
    (16 ≤ i.toNat ∧ i.toNat ≤ 17) ∨ (32 ≤ i.toNat ∧ i.toNat ≤ 47) := by decide

/-- QOUT stands at 0xD0..0xDF only. -/
theorem regAt_qout : ∀ i : BitVec 6, (∃ j, regAt i = .qout j) → 52 ≤ i.toNat ∧ i.toNat ≤ 55 := by decide

/-- The registers whose bus writes are ignored (R53). -/
def ignoresWrites : Reg → Bool
  | .id | .seq | .ctrLo | .ctrHi | .out _ | .qout _ | .reserved => true
  | .cmd | .status | .key _ | .nonce _ | .ctrInLo | .ctrInHi | .qin _ => false

theorem ignoresWrites_regAt : ∀ i : BitVec 6,
    (16 ≤ i.toNat ∧ i.toNat ≤ 47) ∨ 52 ≤ i.toNat → ignoresWrites (regAt i) = true := by decide

section
variable {r : Reg} {s : State} {v : Word}

/-! ### Bus reads (R52) -/

theorem busRead_regIndex (hr : r ≠ .reserved) : busRead (regIndex r) s = readReg r s := by
  rw [busRead, regAt_regIndex hr]

theorem busRead_reserved {i : Nat} (h : (18 ≤ i ∧ i ≤ 31) ∨ (56 ≤ i ∧ i ≤ 63)) :
    busRead (BitVec.ofNat 6 i) s = 0 := by
  have hi : (BitVec.ofNat 6 i).toNat = i := BitVec.toNat_ofNat i 6 ▸ Nat.mod_eq_of_lt (by omega)
  rw [busRead, regAt_eq_reserved _ (by omega), readReg]

/-! ### Bus writes (R53) -/

/-- A write to any register of the map but CMD stores what the map says. -/
theorem hostAct_write_regIndex (hr : r ≠ .reserved) (hcmd : r ≠ .cmd) :
    hostAct (.write (regIndex r) v) s = .next (writeReg r v s) := by
  rw [hostAct, busWrite, regAt_regIndex hr, if_neg hcmd]

theorem writeReg_ignored (h : ignoresWrites r = true) : writeReg r v s = s := by
  cases r with
  | cmd | status | key | nonce | ctrInLo | ctrInHi | qin => cases h
  | _ => rfl

theorem hostAct_write_ignored {i : Nat} (h : (16 ≤ i ∧ i ≤ 47) ∨ (52 ≤ i ∧ i ≤ 63)) :
    hostAct (.write (BitVec.ofNat 6 i) v) s = .next s := by
  have hi : (BitVec.ofNat 6 i).toNat = i := BitVec.toNat_ofNat i 6 ▸ Nat.mod_eq_of_lt (by omega)
  have hreg := ignoresWrites_regAt (BitVec.ofNat 6 i) (by omega)
  have hcmd : regAt (BitVec.ofNat 6 i) ≠ .cmd := fun hc => by rw [hc] at hreg; cases hreg
  rw [hostAct, busWrite, if_neg hcmd, writeReg_ignored hreg]

/-- A write to STATUS clears CTR_WRAP exactly if its bit 3 is set (R35). -/
theorem clearWrap_eq : s.clearWrap v = { s with ctrWrap := if v.getLsbD 3 = true then false else s.ctrWrap } := by
  cases hv : v.getLsbD 3
  · exact clearWrap_of_bit_clear s hv
  · exact clearWrap_of_bit_set s hv

end

/-- Settles O32: the map's entry at each register's own index, and the reserved ranges. -/
theorem busReadsFollowMap : Obligations.BusReadsFollowMap := fun _ =>
  ⟨rfl, rfl, rfl, rfl,
    fun i hi => busRead_regIndex (r := .key ⟨i, hi⟩) nofun,
    fun j hj => busRead_regIndex (r := .nonce ⟨j, hj⟩) nofun,
    rfl, rfl, rfl, rfl,
    fun _ hlo hhi => busRead_reserved (.inl ⟨hlo, hhi⟩),
    fun i hi => busRead_regIndex (r := .out ⟨i, hi⟩) nofun,
    fun j hj => busRead_regIndex (r := .qin ⟨j, hj⟩) nofun,
    fun j hj => busRead_regIndex (r := .qout ⟨j, hj⟩) nofun,
    fun _ hlo hhi => busRead_reserved (.inr ⟨hlo, hhi⟩),
    fun _ => rfl⟩

/-- Settles O33: the map's entry at each register's own index, and the ranges that ignore writes. -/
theorem busWritesFollowMap : Obligations.BusWritesFollowMap := fun _ _ =>
  ⟨rfl, rfl, congrArg Host.Outcome.next clearWrap_eq, rfl,
    fun i hi => hostAct_write_regIndex (r := .key ⟨i, hi⟩) nofun nofun,
    fun j hj => hostAct_write_regIndex (r := .nonce ⟨j, hj⟩) nofun nofun,
    rfl, rfl,
    fun _ hlo hhi => hostAct_write_ignored (.inl ⟨hlo, hhi⟩),
    fun j hj => hostAct_write_regIndex (r := .qin ⟨j, hj⟩) nofun nofun,
    fun _ hlo hhi => hostAct_write_ignored (.inr ⟨hlo, hhi⟩)⟩

/-! ### Loading the key and the nonce (R59, R89) -/

/-- Byte `k` of a little-endian word is the `k`-th of its bytes (R10). -/
theorem byteOf_le32 (b : Fin 4 → Byte) (k : Fin 4) : byteOf (le32 (b 0) (b 1) (b 2) (b 3)) k = b k := by
  have skip : ∀ {v n : Nat} {hi : BitVec v} {lo : Byte}, 8 ≤ n →
      (hi ++ lo).extractLsb' n 8 = hi.extractLsb' (n - 8) 8 := BitVec.extractLsb'_append_eq_of_le
  match k with
  | 0 => exact BitVec.extractLsb'_append_eq_right
  | 1 => exact (skip (by decide)).trans BitVec.extractLsb'_append_eq_right
  | 2 => exact (skip (by decide)).trans ((skip (by decide)).trans BitVec.extractLsb'_append_eq_right)
  | 3 => exact (skip (by decide)).trans ((skip (by decide)).trans BitVec.extractLsb'_append_eq_left)

theorem byteOf_keyWord (b : Vector Byte 32) (i k : Nat) (hi : i < 8) (hk : k < 4) :
    byteOf (keyWord b ⟨i, hi⟩) k = b[4 * i + k] :=
  byteOf_le32 (fun k => b[4 * i + k.val]) ⟨k, hk⟩

theorem byteOf_nonceWord (b : Vector Byte 8) (j k : Nat) (hj : j < 2) (hk : k < 4) :
    byteOf (nonceWord b ⟨j, hj⟩) k = b[4 * j + k] :=
  byteOf_le32 (fun k => b[4 * j + k.val]) ⟨k, hk⟩

@[simp] theorem hostActs_nil (s : State) : hostActs [] s = .next s := rfl

theorem hostActs_append (l l' : List HostAction) (s : State) :
    hostActs (l ++ l') s = andThen (hostActs l s) (hostActs l') := by
  induction l generalizing s with
  | nil => rfl
  | cons a l ih =>
    simp only [List.cons_append, hostActs]
    cases hostAct a s with
    | next u => exact ih u
    | fault | refused => rfl

theorem hostActs_asmWrite_cons {r : Reg} (hr : r ≠ .reserved) (hcmd : r ≠ .cmd) (v : Word) (l : List HostAction)
    (s : State) : hostActs (asmWrite r v :: l) s = hostActs l (writeReg r v s) := by
  rw [hostActs, asmWrite, hostAct_write_regIndex hr hcmd, andThen_next]

theorem setKey_all (f : Fin 8 → Word) (s : State) :
    (((((((s.setKey 0 (f 0)).setKey 1 (f 1)).setKey 2 (f 2)).setKey 3 (f 3)).setKey 4 (f 4)).setKey 5 (f 5)).setKey 6
      (f 6)).setKey 7 (f 7) = { s with key := Vector.ofFn f } := by
  simp only [State.setKey, State.mk.injEq, true_and, and_true]
  ext i hi
  interval_cases i <;> simp

theorem setNonce_all (f : Fin 2 → Word) (s : State) :
    (s.setNonce 0 (f 0)).setNonce 1 (f 1) = { s with nonce := Vector.ofFn f } := by
  simp only [State.setNonce, State.mk.injEq, true_and, and_true]
  ext j hj
  interval_cases j <;> simp

/-- The eight writes of `loadkey` store the eight words of the key. -/
theorem hostActs_loadkey (b : Vector Byte 32) (s : State) :
    hostActs (asmExpand (.loadkey b)) s = .next { s with key := Vector.ofFn (keyWord b) } := by
  have hstore := fun i : Fin 8 => hostActs_asmWrite_cons (r := .key i) nofun nofun
  simp only [asmExpand, hstore, writeReg, setKey_all, hostActs_nil]

/-- The two writes of `loadnonce` store the two words of the nonce. -/
theorem hostActs_loadnonce (b : Vector Byte 8) (s : State) :
    hostActs (asmExpand (.loadnonce b)) s = .next { s with nonce := Vector.ofFn (nonceWord b) } := by
  have hstore := fun j : Fin 2 => hostActs_asmWrite_cons (r := .nonce j) nofun nofun
  simp only [asmExpand, hstore, writeReg, setNonce_all, hostActs_nil]

/-- Settles O36: the loads leave KEY and NONCE as the `le32` words, whose bytes are the loaded ones. -/
theorem keyAndNonceBytesLittleEndian : Obligations.KeyAndNonceBytesLittleEndian := by
  intro key nonce s
  refine ⟨{ s with key := Vector.ofFn (keyWord key), nonce := Vector.ofFn (nonceWord nonce) }, ?_, ?_, ?_, rfl⟩
  · have hprog : asmProgram [.loadkey key, .loadnonce nonce] =
        asmExpand (.loadkey key) ++ asmExpand (.loadnonce nonce) := rfl
    rw [hprog, hostActs_append, hostActs_loadkey, andThen_next, hostActs_loadnonce]
  · intro i k hi hk
    rw [Vector.getElem_ofFn]
    exact byteOf_keyWord key i k hi hk
  · intro j k hj hk
    rw [Vector.getElem_ofFn]
    exact byteOf_nonceWord nonce j k hj hk

/-! ### The bytes of the window an instruction can change (R55, R101, R126, R147, R160, R166, R170) -/

section
variable {r : Reg} {i : Instr} {s t : State} {a : BitVec 8}

theorem readReg_setErr (hr : r ≠ .status) (c : ErrCode) : readReg r (s.setErr c) = readReg r s := by
  cases r with
  | status => exact absurd rfl hr
  | _ => rfl

/-- STATUS aside, what reads differently after a new matrix is CTR_LO, CTR_HI and OUT (R122, R126). -/
theorem readReg_buildMatrix_ne {lo hi : Word} (hr : r ≠ .status)
    (hne : readReg r (s.buildMatrix lo hi) ≠ readReg r s) : r = .ctrLo ∨ r = .ctrHi ∨ ∃ k, r = .out k := by
  cases r with
  | status => exact absurd rfl hr
  | ctrLo | ctrHi | out => simp
  | _ => exact absurd rfl hne

theorem readReg_runMixer_ne (hne : readReg r s.runMixer ≠ readReg r s) : ∃ j, r = .qout j := by
  cases r with
  | qout j => exact ⟨j, rfl⟩
  | _ => exact absurd rfl hne

theorem readReg_startBlock_ne (hr : r ≠ .status) (hne : readReg r s.startBlock ≠ readReg r s) : r = .seq := by
  cases r with
  | status => exact absurd rfl hr
  | seq => rfl
  | _ => exact absurd rfl hne

theorem readReg_quarterTick_ne {sl : Slot} (hne : readReg r (s.quarterTick sl) ≠ readReg r s) : r = .seq := by
  cases r with
  | seq => rfl
  | _ => exact absurd rfl hne

theorem readReg_finishBlock_ne (hr : r ≠ .status) (hne : readReg r s.finishBlock ≠ readReg r s) :
    r = .seq ∨ r = .ctrLo ∨ r = .ctrHi ∨ ∃ k, r = .out k := by
  cases r with
  | status => exact absurd rfl hr
  | seq | ctrLo | ctrHi | out => simp
  | _ => exact absurd rfl hne

/-- The only registers other than STATUS whose reading an instruction can change. -/
theorem Effect.readReg_ne (e : Effect i s t) (hr : r ≠ .status) (hne : readReg r t ≠ readReg r s) :
    (r = .seq ∧ (i = .nextBlock ∨ isCommand i = false)) ∨
    ((r = .ctrLo ∨ r = .ctrHi ∨ ∃ k, r = .out k) ∧ (i = .finalize ∨ ∃ k n, i = .init k n ∨ i = .initCtr k n)) ∨
    ((∃ j, r = .qout j) ∧ i = .qr) := by
  cases e with
  | rejected _ c => exact absurd (readReg_setErr hr c) hne
  | nop => exact absurd (readReg_setErr hr _) hne
  | built hi =>
    rw [readReg_setErr hr] at hne
    exact .inr (.inl ⟨readReg_buildMatrix_ne hr hne, .inr hi⟩)
  | started hi =>
    rw [readReg_setErr hr] at hne
    exact .inl ⟨readReg_startBlock_ne hr hne, .inl hi⟩
  | mixed hi =>
    rw [readReg_setErr hr] at hne
    exact .inr (.inr ⟨readReg_runMixer_ne hne, hi⟩)
  | ticked hi => exact .inl ⟨readReg_quarterTick_ne hne, .inr hi⟩
  | finished hi =>
    rcases readReg_finishBlock_ne hr hne with hseq | hres
    · exact .inl ⟨hseq, .inr (hi ▸ rfl)⟩
    · exact .inr (.inl ⟨hres, .inl hi⟩)

/-- The word index the bus carries for byte offset `a` (R50). -/
theorem toNat_wordIndex (a : BitVec 8) : (a.extractLsb' 2 6).toNat = a.toNat / 4 := by
  rw [BitVec.extractLsb'_toNat, Nat.shiftRight_eq_div_pow]
  omega

/-- The only bytes outside STATUS that an instruction can change, and which instruction can. -/
theorem busReadByte_ne (h : exec i s = .next t) (ha : a.toNat / 4 ≠ 0x08 / 4)
    (hne : busReadByte a t ≠ busReadByte a s) :
    ((0x0C ≤ a.toNat ∧ a.toNat < 0x10) ∧ (i = .nextBlock ∨ isCommand i = false)) ∨
    (((0x40 ≤ a.toNat ∧ a.toNat < 0x48) ∨ (0x80 ≤ a.toNat ∧ a.toNat < 0xC0)) ∧
      (i = .finalize ∨ ∃ k n, i = .init k n ∨ i = .initCtr k n)) ∨
    ((0xD0 ≤ a.toNat ∧ a.toNat < 0xE0) ∧ i = .qr) := by
  have hidx := toNat_wordIndex a
  have hr : regAt (a.extractLsb' 2 6) ≠ .status := fun hst => by
    rw [eq_regIndex_of_regAt hst nofun] at hidx
    exact ha hidx.symm
  have hread : readReg (regAt (a.extractLsb' 2 6)) t ≠ readReg (regAt (a.extractLsb' 2 6)) s := fun heq =>
    hne (congrArg (byteOf · _) heq)
  rcases (exec_effect h).readReg_ne hr hread with ⟨hseq, hi⟩ | ⟨hres, hi⟩ | ⟨hq, hi⟩
  · rw [eq_regIndex_of_regAt hseq nofun] at hidx
    have h3 : (regIndex .seq).toNat = 3 := rfl
    exact .inl ⟨by omega, hi⟩
  · have hrange := regAt_result _ hres
    exact .inr (.inl ⟨by omega, hi⟩)
  · have hrange := regAt_qout _ hq
    exact .inr (.inr ⟨by omega, hi⟩)

end

/-- Settles O56: a byte that reads differently lies in a range that `busReadByte_ne` gives the instruction. -/
theorem windowFrames : Obligations.WindowFrames := by
  intro i s t a h ha
  have hchanged := busReadByte_ne h ha
  refine ⟨?_, ?_, ?_, ?_, ?_⟩
  · rintro rfl
    by_contra hne
    simpa [isCommand] using hchanged hne
  · rintro rfl hqout
    by_contra hne
    simpa [isCommand, hqout] using hchanged hne
  · rintro ⟨k, n, rfl | rfl⟩ hctr hout <;> by_contra hne
    · simpa [isCommand, hctr, hout] using hchanged hne
    · simpa [isCommand, hctr, hout] using hchanged hne
  · rintro rfl hseq hctr hout
    by_contra hne
    simpa [hseq, hctr, hout] using hchanged hne
  · intro hfin hqr hinit hinitCtr hseq
    by_contra hne
    simpa [hfin, hqr, hinit, hinitCtr, hseq] using hchanged hne

/-! ### The placing for the fetch (R57, R165) -/

section
variable {i : Instr}

/-- The turn and the write that were placed are taken off again, so the command runs in `s` itself. -/
theorem step_placeCommand {v : Word} (hd : decodeCmd v = .ok i) (s : State) : step (s.placeCommand v) = exec i s := by
  rw [step_of_schedule_cons (s := s.placeCommand v) rfl, agentTurn, hostTurn_command rfl hd]
  rfl

theorem step_placeMicroStep {n : BitVec 7} (hd : decodeSeq n = .ok i) (s : State) :
    step (s.placeMicroStep n) = exec i { s with busy := true, spc := n } := by
  rw [step_of_schedule_cons (s := s.placeMicroStep n) rfl]
  exact sequencerTurn_of_decode (s := (s.placeMicroStep n).setSchedule s.schedule) rfl hd

theorem tableCode_of_decodeTableWord {nbits w : Nat} (h : decodeTableWord nbits w = some i) :
    ∃ c, tableCode nbits w = some c ∧ decode c = .ok i := by
  unfold decodeTableWord at h
  cases hc : tableCode nbits w with
  | none => rw [hc] at h; cases h
  | some c =>
    refine ⟨c, rfl, ?_⟩
    cases hd : decode c with
    | ok j => simpa [hc, hd, Except.toOption] using h
    | error => simp [hc, hd, Except.toOption] at h

theorem decodeCmd_of_decode {v : Word} (h : decode (.cmd v) = .ok i) : decodeCmd v = .ok i := by
  cases hd : decodeCmd v with
  | ok j => simpa [decode, hd, Except.mapError] using h
  | error => simp [decode, hd, Except.mapError] at h

/-- A table word wider than a byte stands for a command word only (log entry 13). -/
theorem tableCode_wide {nbits w : Nat} {c : Code} (hn : 8 < nbits) (h : tableCode nbits w = some c) :
    ∃ v, c = .cmd v := by
  rw [tableCode, if_neg (by omega)] at h
  split at h
  · cases h; exact ⟨_, rfl⟩
  · cases h

/-- A table word of at most a byte stands for a step number only (log entry 13). -/
theorem tableCode_narrow {nbits w : Nat} {c : Code} (hn : nbits ≤ 8) (h : tableCode nbits w = some c) :
    c = .seq (BitVec.ofNat 7 w) := by
  rw [tableCode, if_pos hn] at h
  split at h
  · cases h; rfl
  · cases h

theorem withFetchWord_of_tableCode {nbits w : Nat} {c : Code} (h : tableCode nbits w = some c) (s : State) :
    s.withFetchWord nbits w = s.placeCode c := by
  simp [State.withFetchWord, h]

end

/-- Settles O44: the width says which kind of code was placed, and its agent takes the very next turn. -/
theorem fetchedWordIsWhatRuns : Obligations.FetchedWordIsWhatRuns := by
  intro s nbits w i h
  obtain ⟨c, hc, hd⟩ := tableCode_of_decodeTableWord h
  rw [withFetchWord_of_tableCode hc]
  refine ⟨fun hn => ?_, fun hn => ?_⟩
  · obtain ⟨v, rfl⟩ := tableCode_wide hn hc
    exact step_placeCommand (decodeCmd_of_decode hd) s
  · obtain rfl := tableCode_narrow hn hc
    exact step_placeMicroStep hd s

end Sys2Proof.Machine

/-! # The encoding family (30_encoding): decoder and encoder agree, which words are rejected, and the poll -/

namespace Sys2Proof.Machine

/-! ### The fields of a command word (R80, R81) -/

section
open BitVec (extractLsb'_append_eq_of_le extractLsb'_append_eq_right extractLsb'_append_eq_left
  extractLsb'_append_extractLsb'_eq_extractLsb')

variable (op : BitVec 4) (klen nlen : BitVec 8)

@[simp] theorem fieldOp_lengthsWord : fieldOp (lengthsWord op klen nlen) = op := extractLsb'_append_eq_right

@[simp] theorem fieldRsvA_lengthsWord : fieldRsvA (lengthsWord op klen nlen) = 0#4 :=
  (extractLsb'_append_eq_of_le (by decide)).trans extractLsb'_append_eq_right

@[simp] theorem fieldKlen_lengthsWord : fieldKlen (lengthsWord op klen nlen) = klen := by
  rw [fieldKlen, lengthsWord]
  iterate 2 rw [extractLsb'_append_eq_of_le (by decide)]
  exact extractLsb'_append_eq_right

@[simp] theorem fieldNlen_lengthsWord : fieldNlen (lengthsWord op klen nlen) = nlen := by
  rw [fieldNlen, lengthsWord]
  iterate 3 rw [extractLsb'_append_eq_of_le (by decide)]
  exact extractLsb'_append_eq_right

@[simp] theorem fieldRsvB_lengthsWord : fieldRsvB (lengthsWord op klen nlen) = 0#8 := by
  rw [fieldRsvB, lengthsWord]
  iterate 3 rw [extractLsb'_append_eq_of_le (by decide)]
  exact extractLsb'_append_eq_left

/-- A command word is its five fields, from the top. -/
theorem fields_append (v : Word) : fieldRsvB v ++ fieldNlen v ++ fieldKlen v ++ fieldRsvA v ++ fieldOp v = v := by
  rw [fieldRsvB, fieldNlen, fieldKlen, fieldRsvA, fieldOp]
  iterate 4 rw [extractLsb'_append_extractLsb'_eq_extractLsb' (by rfl)]
  exact BitVec.extractLsb'_eq_self

theorem fieldAboveOp_append_fieldOp (v : Word) : fieldAboveOp v ++ fieldOp v = v :=
  (extractLsb'_append_extractLsb'_eq_extractLsb' rfl).trans BitVec.extractLsb'_eq_self

end

section
variable {v : Word}

/-- With both reserved fields zero a word is that of its opcode and its lengths. -/
theorem lengthsWord_of_fields (hB : fieldRsvB v = 0#8) (hA : fieldRsvA v = 0#4) :
    lengthsWord (fieldOp v) (fieldKlen v) (fieldNlen v) = v := by
  have h := fields_append v
  rwa [hB, hA] at h

/-! ### The required-zero bits (R82) -/

theorem reservedClear_of_lengths (hop : fieldOp v = 0x1#4 ∨ fieldOp v = 0x2#4) :
    reservedClear v = true ↔ fieldRsvB v = 0#8 ∧ fieldRsvA v = 0#4 := by
  rw [reservedClear, if_pos hop, Bool.and_eq_true, beq_iff_eq, beq_iff_eq]

theorem reservedClear_of_plain (hop : ¬ (fieldOp v = 0x1#4 ∨ fieldOp v = 0x2#4)) :
    reservedClear v = true ↔ fieldAboveOp v = 0#28 := by
  rw [reservedClear, if_neg hop, beq_iff_eq]

/-! ### What the decoder answers on a command word (R82, R83, R84, R100) -/

theorem decodeCmd_illegal (hop : 0x5#4 ≤ fieldOp v) : decodeCmd v = .error .illegalOpcode := by
  rw [decodeCmd, if_pos hop]

theorem decodeCmd_reserved (hop : ¬ 0x5#4 ≤ fieldOp v) (hr : ¬ reservedClear v = true) :
    decodeCmd v = .error .reservedBits := by
  rw [decodeCmd, if_neg hop, if_neg hr]

theorem decodeCmd_eq_ok_iff {i : Instr} :
    decodeCmd v = .ok i ↔ ¬ 0x5#4 ≤ fieldOp v ∧ reservedClear v = true ∧ selectCommand v = i := by
  by_cases hop : 0x5#4 ≤ fieldOp v
  · simp [decodeCmd_illegal hop, hop]
  · by_cases hr : reservedClear v = true
    · simp [decodeCmd, hop, hr]
    · simp [decodeCmd_reserved hop hr, hr]

theorem decode_cmd_of_decodeCmd {i : Instr} (h : decodeCmd v = .ok i) : decode (.cmd v) = .ok i := by
  rw [decode, h, Except.mapError]

theorem decodeCmd_init (klen nlen : BitVec 8) : decodeCmd (lengthsWord 0x1#4 klen nlen) = .ok (.init klen nlen) :=
  decodeCmd_eq_ok_iff.2 ⟨by simp, (reservedClear_of_lengths (by simp)).2 (by simp), by simp [selectCommand]⟩

theorem decodeCmd_initCtr (klen nlen : BitVec 8) :
    decodeCmd (lengthsWord 0x2#4 klen nlen) = .ok (.initCtr klen nlen) :=
  decodeCmd_eq_ok_iff.2 ⟨by simp, (reservedClear_of_lengths (by simp)).2 (by simp), by simp [selectCommand]⟩

/-- NOP, NEXT_BLOCK and QR are encoded by their opcode under 28 zero bits. -/
theorem encode_selectCommand_plain : ∀ op : BitVec 4, ¬ 0x5#4 ≤ op → ¬ (op = 0x1#4 ∨ op = 0x2#4) →
    encode (selectCommand (0#28 ++ op)) = .cmd (0#28 ++ op) := by decide

/-- The command that a legal word selects is encoded by that word (R82). -/
theorem encode_selectCommand (hop : ¬ 0x5#4 ≤ fieldOp v) (hr : reservedClear v = true) :
    encode (selectCommand v) = .cmd v := by
  by_cases hlen : fieldOp v = 0x1#4 ∨ fieldOp v = 0x2#4
  · obtain ⟨hB, hA⟩ := (reservedClear_of_lengths hlen).1 hr
    have hv := lengthsWord_of_fields hB hA
    rcases hlen with h | h <;> rw [h] at hv
    · simp [selectCommand, h, encode, hv]
    · simp [selectCommand, h, encode, hv]
  · have hv := fieldAboveOp_append_fieldOp v
    rw [(reservedClear_of_plain hlen).1 hr] at hv
    have h := encode_selectCommand_plain (fieldOp v) hop hlen
    rwa [hv] at h

end

/-- Every command is well-formed, whatever its lengths (R81). -/
theorem wellFormed_of_isCommand {i : Instr} (h : isCommand i = true) : i.wellFormed = true := by
  cases i with
  | nop | init | initCtr | nextBlock | qr => rfl
  | _ => cases h

/-! ### Step numbers (R87): double-round `r` above slot `q` -/

section
variable (q : BitVec 3) (r : BitVec 4)

theorem encode_slotInstr : encode (slotInstr q r) = .seq (r ++ q) := by
  obtain ⟨⟨q, hq⟩⟩ := q
  interval_cases q <;> rfl

theorem wellFormed_slotInstr : (slotInstr q r).wellFormed = decide (r < 10#4) := by
  obtain ⟨⟨q, hq⟩⟩ := q
  interval_cases q <;> rfl

/-- Ten double-rounds of eight slots are the step numbers below 80. -/
theorem append_lt_eighty_iff : (r ++ q : BitVec 7) < 80#7 ↔ r < 10#4 := by
  have h : (r ++ q : BitVec 7).toNat = 8 * r.toNat + q.toNat := by
    rw [BitVec.toNat_append, Nat.shiftLeft_eq, Nat.mul_comm, ← Nat.two_pow_add_eq_or_of_lt q.isLt]
  rw [BitVec.lt_def, BitVec.lt_def, h, BitVec.toNat_ofNat, BitVec.toNat_ofNat]
  omega

end

section
variable {n : BitVec 7}

theorem decodeSeq_of_lt (h : n < 80#7) :
    decodeSeq n = .ok (slotInstr (n.extractLsb' 0 3) (n.extractLsb' 3 4)) := by
  have hne : n ≠ 80#7 := by bv_omega
  rw [decodeSeq, if_neg hne, if_pos h]

theorem decodeSeq_append (q : BitVec 3) {r : BitVec 4} (hr : r < 10#4) :
    decodeSeq (r ++ q) = .ok (slotInstr q r) := by
  rw [decodeSeq_of_lt ((append_lt_eighty_iff q r).2 hr), BitVec.extractLsb'_append_eq_right,
    BitVec.extractLsb'_append_eq_left]

/-- A step number decodes to FINALIZE at 80 and to its slot's micro-step below 80 (R87). -/
theorem decodeSeq_cases {i : Instr} (h : decodeSeq n = .ok i) :
    (n = 80#7 ∧ i = .finalize) ∨ (n < 80#7 ∧ i = slotInstr (n.extractLsb' 0 3) (n.extractLsb' 3 4)) := by
  unfold decodeSeq at h
  split_ifs at h with h80 hlt
  · cases h; exact .inl ⟨h80, rfl⟩
  · cases h; exact .inr ⟨hlt, rfl⟩

end

/-! ### Decoding and encoding are inverse to each other (R82, R87) -/

/-- Settles O41: a command by the fields of its word, a micro-step by the two parts of its step number. -/
theorem decodeOfEncode : Obligations.DecodeOfEncode := by
  intro i hwf
  cases i with
  | nop | nextBlock | qr | finalize => rfl
  | init klen nlen => exact decode_cmd_of_decodeCmd (decodeCmd_init klen nlen)
  | initCtr klen nlen => exact decode_cmd_of_decodeCmd (decodeCmd_initCtr klen nlen)
  | qrCol0 r => exact decodeSeq_append 0#3 (of_decide_eq_true hwf)
  | qrCol1 r => exact decodeSeq_append 1#3 (of_decide_eq_true hwf)
  | qrCol2 r => exact decodeSeq_append 2#3 (of_decide_eq_true hwf)
  | qrCol3 r => exact decodeSeq_append 3#3 (of_decide_eq_true hwf)
  | qrDiag0 r => exact decodeSeq_append 4#3 (of_decide_eq_true hwf)
  | qrDiag1 r => exact decodeSeq_append 5#3 (of_decide_eq_true hwf)
  | qrDiag2 r => exact decodeSeq_append 6#3 (of_decide_eq_true hwf)
  | qrDiag3 r => exact decodeSeq_append 7#3 (of_decide_eq_true hwf)

/-- Settles O42: a word that decodes has a legal opcode and clear required-zero bits, a step number is 80 or below. -/
theorem encodeOfDecode : Obligations.EncodeOfDecode := by
  intro c i h
  cases c with
  | cmd v =>
    have hd := decodeCmd_of_decode h
    refine ⟨wellFormed_of_isCommand (decodeCmd_isCommand hd), ?_⟩
    obtain ⟨hop, hr, rfl⟩ := decodeCmd_eq_ok_iff.1 hd
    exact encode_selectCommand hop hr
  | seq n =>
    obtain ⟨rfl, rfl⟩ | ⟨hlt, rfl⟩ := decodeSeq_cases h
    · exact ⟨rfl, rfl⟩
    · rw [wellFormed_slotInstr, encode_slotInstr, decide_eq_true_iff, ← append_lt_eighty_iff (n.extractLsb' 0 3),
        spc_eq_append]
      exact ⟨hlt, rfl⟩

/-- Settles O40: the words and step numbers are encodings, by the laws of the decoder where a field varies. -/
theorem sampleCodesDecode : Obligations.SampleCodesDecode :=
  ⟨rfl, decodeCmd_init 32 8, decodeCmd_initCtr 32 8, rfl, rfl, decodeCmd_init 32 7, decodeCmd_initCtr 31 8,
    decodeCmd_illegal (by decide), decodeCmd_reserved (by decide) (by decide),
    decodeSeq_append 0#3 (r := 0#4) (by decide), decodeSeq_append 6#3 (r := 1#4) (by decide),
    decodeSeq_append 7#3 (r := 9#4) (by decide), rfl, rfl⟩

/-! ### Words that are no command (R83, R84) -/

/-- INIT and INIT_CTR have a legal opcode. -/
theorem lengths_opcode : ∀ op : BitVec 4, op = 0x1#4 ∨ op = 0x2#4 → ¬ 0x5#4 ≤ op := by decide

/-- NOP, NEXT_BLOCK and QR have a legal opcode, and none with lengths. -/
theorem plain_opcode : ∀ op : BitVec 4, op = 0x0#4 ∨ op = 0x3#4 ∨ op = 0x4#4 →
    ¬ 0x5#4 ≤ op ∧ ¬ (op = 0x1#4 ∨ op = 0x2#4) := by decide

section
variable {s : State} {v : Word}

/-- While no block runs, a word that does not decode writes the decoder's reason to ERR (R203). -/
theorem dispatchCommand_of_reject {why : CmdReject} (hd : decodeCmd v = .error why) (hb : s.busy = false) :
    dispatchCommand v s = .next (s.setErr (rejectCode why)) := by
  rw [dispatchCommand, hd]
  exact whileIdle_idle hb _

/-- Settles O11: the opcode is checked before every other bit, and BUSY before the opcode. -/
theorem illegalOpcodeRejected : Obligations.IllegalOpcodeRejected := fun v _ hop =>
  ⟨dispatchCommand_of_reject (decodeCmd_illegal hop), dispatchCommand_busy v⟩

/-- Settles O12: the opcode is legal and says which bits have to be zero. -/
theorem reservedBitsRejected : Obligations.ReservedBitsRejected := by
  refine fun v s hb => ⟨fun hop hbits => ?_, fun hop hbits => ?_⟩
  · refine dispatchCommand_of_reject (decodeCmd_reserved (lengths_opcode _ hop) fun hr => ?_) hb
    obtain ⟨hB, hA⟩ := (reservedClear_of_lengths hop).1 hr
    exact hbits.elim (absurd hB) (absurd hA)
  · obtain ⟨hlegal, hplain⟩ := plain_opcode _ hop
    exact dispatchCommand_of_reject
      (decodeCmd_reserved hlegal fun hr => hbits ((reservedClear_of_plain hplain).1 hr)) hb

/-! ### The poll (R88) -/

theorem hostAct_poll_met {i : BitVec 6} {mask : Word} (h : busRead i s &&& mask = v) :
    hostAct (.poll i mask v) s = .next (s.pushReply (busRead i s)) := by
  rw [hostAct, if_pos h]

theorem hostAct_poll_unmet {i : BitVec 6} {mask : Word} (h : busRead i s &&& mask ≠ v) :
    hostAct (.poll i mask v) s = .next ((s.pushReply (busRead i s)).pushAction (.poll i mask v)) := by
  rw [hostAct, if_neg h]

end

/-- Settles O37: one read either way, and the poll put back when its test fails. -/
theorem pollRepeatsUntilMatch : Obligations.PollRepeatsUntilMatch := fun _ _ _ _ =>
  ⟨hostAct_poll_met, hostAct_poll_unmet⟩

end Sys2Proof.Machine

/-! # The dispatch family (40_command_dispatch): the checks of a CMD write in their order, and NOP -/

namespace Sys2Proof.Machine

/-! ### A dispatched command has its full effect or none (R100) -/

section
variable {s t : State} {i : Instr}

/-- A command clears ERR, or its rejection leaves every other register as it was (R203). -/
theorem Effect.err_ok_or_setErr (e : Effect i s t) (hc : isCommand i = true) : t.err = .ok ∨ t = s.setErr t.err := by
  cases e with
  | rejected => exact .inr rfl
  | nop | built | started | mixed => exact .inl rfl
  | ticked hi => simp [hi] at hc
  | finished hi => subst hi; cases hc

theorem dispatchCommand_err_ok_or_setErr (v : Word) (s : State) :
    ∃ t, dispatchCommand v s = .next t ∧ (t.err = .ok ∨ t = s.setErr t.err) := by
  obtain ⟨t, ht, ⟨_, _, hc, _, he⟩ | ⟨_, c, _, rfl⟩⟩ := dispatchCommand_cases v s
  · exact ⟨t, ht, he.err_ok_or_setErr hc⟩
  · exact ⟨s.setErr c, ht, .inr rfl⟩

end

/-! ### The word that passes every check runs the command of its opcode (R82, R100) -/

/-- A legal opcode without lengths is that of NOP, NEXT_BLOCK or QR. -/
theorem opcode_plain_of_legal : ∀ op : BitVec 4, ¬ 5 ≤ op.toNat → ¬ (op = 0x1#4 ∨ op = 0x2#4) →
    op = 0x0#4 ∨ op = 0x3#4 ∨ op = 0x4#4 := by decide

section
variable {s : State} {v : Word}

/-- A legal opcode that fails neither reserved-bit check of R100 has its required-zero bits zero. -/
theorem reservedClear_of_checks (hop : ¬ 5 ≤ (fieldOp v).toNat)
    (hlen : ¬ ((fieldOp v = 0x1#4 ∨ fieldOp v = 0x2#4) ∧ (fieldRsvB v ≠ 0#8 ∨ fieldRsvA v ≠ 0#4)))
    (hplain : ¬ ((fieldOp v = 0x0#4 ∨ fieldOp v = 0x3#4 ∨ fieldOp v = 0x4#4) ∧ fieldAboveOp v ≠ 0#28)) :
    reservedClear v = true := by
  by_cases h : fieldOp v = 0x1#4 ∨ fieldOp v = 0x2#4
  · have hzero : ¬ (fieldRsvB v ≠ 0#8 ∨ fieldRsvA v ≠ 0#4) := fun hbits => hlen ⟨h, hbits⟩
    rw [not_or, not_not, not_not] at hzero
    exact (reservedClear_of_lengths h).2 hzero
  · have hzero : fieldAboveOp v = 0#28 := by_contra fun hbits => hplain ⟨opcode_plain_of_legal _ hop h, hbits⟩
    exact (reservedClear_of_plain h).2 hzero

theorem exec_selectCommand (v : Word) (s : State) : exec (selectCommand v) s =
    if fieldOp v = 0x0#4 then exec .nop s
    else if fieldOp v = 0x1#4 then exec (.init (fieldKlen v) (fieldNlen v)) s
    else if fieldOp v = 0x2#4 then exec (.initCtr (fieldKlen v) (fieldNlen v)) s
    else if fieldOp v = 0x3#4 then exec .nextBlock s
    else exec .qr s := by
  unfold selectCommand
  split_ifs <;> rfl

/-- While no block runs the dispatch is the chain of checks, then the command the opcode selects. -/
theorem dispatchCommand_idle (v : Word) (hb : s.busy = false) : dispatchCommand v s =
    if 5 ≤ (fieldOp v).toNat then .next (s.setErr .illegalOpcode)
    else if (fieldOp v = 0x1#4 ∨ fieldOp v = 0x2#4) ∧ (fieldRsvB v ≠ 0#8 ∨ fieldRsvA v ≠ 0#4) then
      .next (s.setErr .reservedBits)
    else if (fieldOp v = 0x0#4 ∨ fieldOp v = 0x3#4 ∨ fieldOp v = 0x4#4) ∧ fieldAboveOp v ≠ 0#28 then
      .next (s.setErr .reservedBits)
    else exec (selectCommand v) s := by
  obtain ⟨hreservedLen, hreservedPlain⟩ := reservedBitsRejected v s hb
  split_ifs with hop hlen hplain
  · exact (illegalOpcodeRejected v s hop).1 hb
  · exact hreservedLen hlen.1 hlen.2
  · exact hreservedPlain hplain.1 hplain.2
  · exact dispatchCommand_of_decode (decodeCmd_eq_ok_iff.2 ⟨hop, reservedClear_of_checks hop hlen hplain, rfl⟩) s

end

/-- Settles O9: BUSY is checked first, an idle CORE makes the other checks in their order, and either way the dispatch
has its full effect or writes ERR only. -/
theorem dispatchChecksInOrder : Obligations.DispatchChecksInOrder := by
  refine fun v s => ⟨hostAct_write_cmd v s, ?_, dispatchCommand_err_ok_or_setErr v s⟩
  by_cases hb : s.busy = true
  · rw [if_pos hb]
    exact dispatchCommand_busy v hb
  · rw [if_neg hb, dispatchCommand_idle v (Bool.eq_false_iff.2 hb), exec_selectCommand]
    rfl

/-- Settles O1: NOP is the BUSY check and then the acceptance of an unchanged state. -/
theorem nopWritesErrOnly : Obligations.NopWritesErrOnly := fun s =>
  ⟨fun hb => whileIdle_idle hb _, fun hb => whileIdle_busy hb _, dispatchCommand_of_decode sampleCodesDecode.1 s,
    fun v hb hop hbits => (reservedBitsRejected v s hb).2 (.inl hop) hbits⟩

end Sys2Proof.Machine

/-! # The initializer family (41_state_initializer): what INIT and INIT_CTR build, and their length errors -/

namespace Sys2Proof.Machine

/-! ### The initializer behind both commands (R122, R123, R124, R126) -/

section
variable {s t : State} {klen nlen : BitVec 8} {lo hi : Word}

theorem exec_init (klen nlen : BitVec 8) (s : State) :
    exec (.init klen nlen) s = whileIdle s (initialize64 klen nlen 0 0 s) := rfl

theorem exec_initCtr (klen nlen : BitVec 8) (s : State) :
    exec (.initCtr klen nlen) s = whileIdle s (initialize64 klen nlen s.ctrInLo s.ctrInHi s) := rfl

theorem initialize64_wrong_klen (hk : klen.toNat ≠ 32) :
    initialize64 klen nlen lo hi s = .next (s.setErr .invalidKeyLength) := by
  simp [initialize64, lengthError, hk]

theorem initialize64_wrong_nlen (hk : klen.toNat = 32) (hn : nlen.toNat ≠ 8) :
    initialize64 klen nlen lo hi s = .next (s.setErr .invalidNonceLength) := by
  simp [initialize64, lengthError, hk, hn]

theorem initialize64_right_lengths (hk : klen.toNat = 32) (hn : nlen.toNat = 8) :
    initialize64 klen nlen lo hi s = .next ((s.buildMatrix lo hi).setErr .ok) := by
  simp [initialize64, lengthError, hk, hn]

/-- The BUSY check, the length checks and the writes, one clause for each outcome (R122, R123, R206). -/
theorem initializer_outcomes (klen nlen : BitVec 8) (lo hi : Word) (s : State) :
    (s.busy = false → klen = 32#8 → nlen = 8#8 →
      whileIdle s (initialize64 klen nlen lo hi s) = .next ((s.buildMatrix lo hi).setErr .ok)) ∧
    (s.busy = false → klen ≠ 32#8 →
      whileIdle s (initialize64 klen nlen lo hi s) = .next (s.setErr .invalidKeyLength)) ∧
    (s.busy = false → klen = 32#8 → nlen ≠ 8#8 →
      whileIdle s (initialize64 klen nlen lo hi s) = .next (s.setErr .invalidNonceLength)) ∧
    (s.busy = true → whileIdle s (initialize64 klen nlen lo hi s) = .next (s.setErr .busy)) :=
  ⟨fun hb hk hn => (whileIdle_idle hb _).trans (initialize64_right_lengths (BitVec.toNat_eq.1 hk) (BitVec.toNat_eq.1 hn)),
    fun hb hk => (whileIdle_idle hb _).trans (initialize64_wrong_klen (BitVec.toNat_ne_iff_ne.2 hk)),
    fun hb hk hn =>
      (whileIdle_idle hb _).trans (initialize64_wrong_nlen (BitVec.toNat_eq.1 hk) (BitVec.toNat_ne_iff_ne.2 hn)),
    fun hb => whileIdle_busy hb _⟩

/-- ERR = 0 tells an accepted initialization from the rejected ones (R203). -/
theorem eq_buildMatrix_of_err_ok (h : whileIdle s (initialize64 klen nlen lo hi s) = .next t) (ht : t.err = .ok) :
    t = (s.buildMatrix lo hi).setErr .ok := by
  obtain ⟨_, rfl⟩ | ⟨_, h⟩ := whileIdle_next h
  · cases ht
  · obtain ⟨c, hc, rfl⟩ | rfl := initialize64_next h
    · exact absurd ht hc
    · rfl

/-- A word of INIT or INIT_CTR without a reserved bit runs the initializer on the lengths it carries (R81, R82). -/
theorem dispatchCommand_lengths {v : Word} (hb : s.busy = false) (hop : fieldOp v = 0x1#4 ∨ fieldOp v = 0x2#4)
    (hA : fieldRsvA v = 0#4) (hB : fieldRsvB v = 0#8) :
    ∃ lo hi, dispatchCommand v s = initialize64 (fieldKlen v) (fieldNlen v) lo hi s := by
  have hword := lengthsWord_of_fields hB hA
  obtain hop | hop := hop <;> rw [hop] at hword
  · have hd : decodeCmd v = .ok (.init (fieldKlen v) (fieldNlen v)) := by rw [← decodeCmd_init, hword]
    exact ⟨0, 0, (dispatchCommand_of_decode hd s).trans (whileIdle_idle hb _)⟩
  · have hd : decodeCmd v = .ok (.initCtr (fieldKlen v) (fieldNlen v)) := by rw [← decodeCmd_initCtr, hword]
    exact ⟨s.ctrInLo, s.ctrInHi, (dispatchCommand_of_decode hd s).trans (whileIdle_idle hb _)⟩

end

/-! ### The statements -/

/-- Settles O2: INIT is the initializer with a zero counter. -/
theorem initBuildsMatrix : Obligations.InitBuildsMatrix := by
  intro klen nlen s
  rw [exec_init]
  obtain ⟨haccepted, hklen, hnlen, hbusy⟩ := initializer_outcomes klen nlen 0 0 s
  exact ⟨haccepted, hklen, hnlen, hbusy, dispatchCommand_of_decode (decodeCmd_init 32 8) s,
    fun v hb hop => (reservedBitsRejected v s hb).1 (.inl hop)⟩

/-- Settles O3: INIT_CTR is the initializer with the counter of CTR_IN. -/
theorem initCtrBuildsMatrixAtCounter : Obligations.InitCtrBuildsMatrixAtCounter := by
  intro klen nlen s
  rw [exec_initCtr]
  obtain ⟨haccepted, hklen, hnlen, hbusy⟩ := initializer_outcomes klen nlen s.ctrInLo s.ctrInHi s
  refine ⟨haccepted, hklen, hnlen, hbusy, fun hlo hhi => ?_, dispatchCommand_of_decode (decodeCmd_initCtr 32 8) s,
    fun v hb hop => (reservedBitsRejected v s hb).1 (.inr hop)⟩
  rw [exec_init, hlo, hhi]

/-- Settles O4: the dispatch runs the initializer on the lengths of the word. -/
theorem lengthErrorsOfCommandWord : Obligations.LengthErrorsOfCommandWord := by
  intro v s hb hop hA hB
  obtain ⟨lo, hi, hrun⟩ := dispatchCommand_lengths hb hop hA hB
  rw [hrun]
  exact ⟨initialize64_wrong_klen, initialize64_wrong_nlen,
    fun hk hn => ⟨_, initialize64_right_lengths hk hn, rfl, rfl⟩⟩

/-- Settles O5: ERR = 0 leaves only the accepted initialization, whose writes the fields of `buildMatrix` name. -/
theorem acceptedInitCommonEffects : Obligations.AcceptedInitCommonEffects := by
  intro klen nlen s t ht h
  obtain ⟨lo, hi, rfl⟩ : ∃ lo hi, t = (s.buildMatrix lo hi).setErr .ok :=
    h.elim (fun h => ⟨_, _, eq_buildMatrix_of_err_ok h ht⟩) (fun h => ⟨_, _, eq_buildMatrix_of_err_ok h ht⟩)
  simp

end Sys2Proof.Machine

/-! # The quarter-round family (42_quarter_round): the mixer's sequence, its inverse, and QR -/

namespace Sys2Proof.Machine

/-! ### The inverse sequence undoes the ARX steps (R141, R146) -/

/-- Right rotation undoes left rotation: bit `i` moves to `i + n` and back (R9). -/
theorem rotr32_rotl32 (x : Word) {n : Nat} (hn : 0 < n) (hn32 : n < 32) : rotr32 (rotl32 x n) n = x := by
  refine BitVec.eq_of_getLsbD_eq fun i hi => ?_
  have hback : ((i + 32 - (32 - n)) % 32 + 32 - n) % 32 = i := by omega
  rw [rotr32, rotl32_getLsbD _ (by omega) (by omega) hi, rotl32_getLsbD x hn hn32 (Nat.mod_lt _ (by decide)), hback]

/-- The sum of an ARX step gives back its first word. -/
theorem arx_sub (x y z : Word) (n : Nat) : (arx x y z n).1 - y = x := BitVec.add_sub_cancel x y

/-- The rotated word of an ARX step, turned back, still holds the xor with the sum. -/
theorem rotr32_arx_xor (x y z : Word) {n : Nat} (hn : 0 < n) (hn32 : n < 32) :
    rotr32 (arx x y z n).2 n ^^^ (arx x y z n).1 = z := by
  rw [arx, rotr32_rotl32 _ hn hn32, BitVec.xor_assoc, BitVec.xor_self, BitVec.xor_zero]

section
variable (q : Quad) {n : Nat} (hn : 0 < n) (hn32 : n < 32)
include hn hn32

theorem undoCDB_arxCDB : undoCDB (arxCDB q n) n = q := by
  rw [undoCDB, arxCDB, rotr32_arx_xor q.c q.d q.b hn hn32, arx_sub]

theorem undoABD_arxABD : undoABD (arxABD q n) n = q := by
  rw [undoABD, arxABD, rotr32_arx_xor q.a q.b q.d hn hn32, arx_sub]

end

theorem quarterRoundInv_quarterRound (q : Quad) : quarterRoundInv (quarterRound q) = q := by
  rw [quarterRoundInv, quarterRound, undoCDB_arxCDB _ (by decide) (by decide),
    undoABD_arxABD _ (by decide) (by decide), undoCDB_arxCDB _ (by decide) (by decide),
    undoABD_arxABD _ (by decide) (by decide)]

/-! ### The statements -/

/-- Settles O18: the lines of the inverse undo the four ARX steps, the last one first. -/
theorem quarterRoundIsInvertible : Obligations.QuarterRoundIsInvertible :=
  ⟨quarterRoundInv_quarterRound, fun _ _ _ _ => rfl⟩

/-- Settles O6: QR is the BUSY check and then the acceptance of the mixer's writes; its word is the one of the table, and
the two corners are the mixer run on their words. -/
theorem qrWritesQout : Obligations.QrWritesQout := by
  obtain ⟨-, -, -, -, hqr, -⟩ := sampleCodesDecode
  refine ⟨fun s => ⟨fun hb => ?_, fun hb => ?_, dispatchCommand_of_decode hqr s, fun v hb hop hbits => ?_⟩, ?_, ?_⟩
  · exact whileIdle_idle hb (accept s.runMixer)
  · exact whileIdle_busy hb (accept s.runMixer)
  · exact (reservedBitsRejected v s hb).2 (.inr (.inr hop)) hbits
  · decide
  · decide

/-- Settles O16: `quarterRound` chains the four ARX steps, each on the words the steps before it wrote, so the rule's
sequence is its definition written out. -/
theorem quarterRoundSequence : Obligations.QuarterRoundSequence := fun _ _ _ _ => rfl

end Sys2Proof.Machine

/-! # The block-function family (43_block_function): slots and rounds, the ticks of a block, and the finished block -/

namespace Sys2Proof.Machine

/-! ### What a slot reads and writes (R161, R166) -/

theorem words_ext {v w : Vector Word 16} (h : ∀ i : Fin 16, v[i] = w[i]) : v = w :=
  Vector.ext fun i hi => h ⟨i, hi⟩

/-- The four W indices of a slot. -/
def Slot.indices (t : Slot) : List (Fin 16) := [t.a, t.b, t.c, t.d]

section
variable {t u : Slot} (w : Vector Word 16)

theorem applySlot_other (i : Fin 16) (h : i ∉ t.indices) : (applySlot t w)[i] = w[i] := by
  obtain ⟨ha, hb, hc, hd⟩ : i ≠ t.a ∧ i ≠ t.b ∧ i ≠ t.c ∧ i ≠ t.d := by simpa [Slot.indices] using h
  exact putQuad_other t w _ i i.isLt (Fin.val_ne_of_ne ha) (Fin.val_ne_of_ne hb) (Fin.val_ne_of_ne hc)
    (Fin.val_ne_of_ne hd)

/-- At its own four indices a slot's writes depend on the words it reads only. -/
theorem applySlot_congr {v : Vector Word 16} {i : Fin 16} (h : i ∈ t.indices) (hq : slotQuad t w = slotQuad t v) :
    (applySlot t w)[i] = (applySlot t v)[i] := by
  rw [applySlot, applySlot, hq, putQuad, putQuad]
  simp only [Fin.getElem_fin, Vector.getElem_set]
  have hmem : i = t.a ∨ i = t.b ∨ i = t.c ∨ i = t.d := by simpa [Slot.indices] using h
  rcases hmem with rfl | rfl | rfl | rfl <;> simp

/-- With four distinct indices no write of a slot hits another one. -/
theorem slotQuad_applySlot (ht : t.indices.Nodup) : slotQuad t (applySlot t w) = quarterRound (slotQuad t w) := by
  obtain ⟨⟨hab, hac, had⟩, ⟨hbc, hbd⟩, hcd⟩ :
      (t.a ≠ t.b ∧ t.a ≠ t.c ∧ t.a ≠ t.d) ∧ (t.b ≠ t.c ∧ t.b ≠ t.d) ∧ t.c ≠ t.d := by
    simpa [Slot.indices] using ht
  simp [slotQuad, applySlot, putQuad, Fin.val_inj, hab.symm, hac.symm, had.symm, hbc.symm,
    hbd.symm, hcd.symm]

/-- A slot reads nothing that a slot apart from it writes. -/
theorem slotQuad_applySlot_disjoint (h : t.indices.Disjoint u.indices) :
    slotQuad t (applySlot u w) = slotQuad t w := by
  have hkeep : ∀ i ∈ t.indices, (applySlot u w)[i] = w[i] := fun i hi => applySlot_other w i (h hi)
  simp only [Slot.indices, List.forall_mem_cons] at hkeep
  obtain ⟨ha, hb, hc, hd, -⟩ := hkeep
  rw [slotQuad, ha, hb, hc, hd, slotQuad]

theorem applySlot_comm (h : t.indices.Disjoint u.indices) :
    applySlot t (applySlot u w) = applySlot u (applySlot t w) := by
  have hread := slotQuad_applySlot_disjoint w h
  have hread' := slotQuad_applySlot_disjoint w h.symm
  refine words_ext fun i => ?_
  by_cases hit : i ∈ t.indices
  · rw [applySlot_other _ i (h hit), applySlot_congr _ hit hread]
  · rw [applySlot_other _ i hit]
    by_cases hiu : i ∈ u.indices
    · rw [applySlot_congr _ hiu hread']
    · rw [applySlot_other _ i hiu, applySlot_other _ i hiu, applySlot_other _ i hit]

end

/-- Settles O20: the slot's quad after it is the mixer of its quad before, read word by word. -/
theorem slotWritesItsFourWords : Obligations.SlotWritesItsFourWords := by
  intro ia ib ic id w hnodup
  have hquad := slotQuad_applySlot (t := ⟨ia, ib, ic, id⟩) w hnodup
  exact ⟨congrArg Quad.a hquad, congrArg Quad.b hquad, congrArg Quad.c hquad, congrArg Quad.d hquad,
    fun i hi => applySlot_other w i hi⟩

/-! ### Rounds: slots that share no index (R162, R163) -/

/-- The slots of the column round, in order. -/
def columns : List Slot := [slotCol0, slotCol1, slotCol2, slotCol3]

/-- The slots of the diagonal round, in order. -/
def diagonals : List Slot := [slotDiag0, slotDiag1, slotDiag2, slotDiag3]

/-- Slots one after another. -/
def applySlots (l : List Slot) (w : Vector Word 16) : Vector Word 16 := l.foldl (fun u t => applySlot t u) w

theorem applySlots_columns (w : Vector Word 16) : applySlots columns w = columnRound w := rfl

theorem applySlots_diagonals (w : Vector Word 16) : applySlots diagonals w = diagonalRound w := rfl

/-- No index occurs twice in the slots of `l`, neither within one nor in two of them. -/
def Lanes (l : List Slot) : Prop := (l.flatMap Slot.indices).Nodup

theorem lanes_columns : Lanes columns := by unfold Lanes; decide

theorem lanes_diagonals : Lanes diagonals := by unfold Lanes; decide

section
variable {l l' : List Slot} {t u : Slot}

theorem Lanes.disjoint (h : Lanes l) (ht : t ∈ l) (hu : u ∈ l) (hne : t ≠ u) : t.indices.Disjoint u.indices := by
  have : Std.Symm (Function.onFun List.Disjoint Slot.indices) := ⟨fun _ _ hd => List.Disjoint.symm hd⟩
  exact (List.nodup_flatMap.1 h).2.forall ht hu hne

/-- An index that some slot covers lies in that one only. -/
theorem Lanes.existsUnique (h : Lanes l) {i : Fin 16} (hi : ∃ t ∈ l, i ∈ t.indices) :
    ∃! t, t ∈ l ∧ i ∈ t.indices := by
  obtain ⟨t, ht, hit⟩ := hi
  refine ⟨t, ⟨ht, hit⟩, ?_⟩
  rintro u ⟨hu, hiu⟩
  by_contra hne
  exact h.disjoint hu ht hne hiu hit

/-- The slots of a round may run in any order. -/
theorem Lanes.applySlots_perm (h : Lanes l) (hp : l'.Perm l) (w : Vector Word 16) :
    applySlots l' w = applySlots l w := by
  refine (hp.symm.foldl_eq' (fun t ht u hu v => ?_) w).symm
  by_cases htu : t = u
  · rw [htu]
  · exact applySlot_comm v (h.disjoint hu ht (Ne.symm htu))

theorem lanes_cons : Lanes (u :: l) ↔ u.indices.Nodup ∧ (∀ t ∈ l, u.indices.Disjoint t.indices) ∧ Lanes l := by
  simp only [Lanes, List.nodup_flatMap, List.forall_mem_cons, List.pairwise_cons, Function.onFun]
  tauto

theorem slotQuad_applySlots_disjoint (h : ∀ u ∈ l, t.indices.Disjoint u.indices) (w : Vector Word 16) :
    slotQuad t (applySlots l w) = slotQuad t w := by
  induction l generalizing w with
  | nil => rfl
  | cons u l ih =>
    obtain ⟨hu, hl⟩ := List.forall_mem_cons.1 h
    exact (ih hl (applySlot u w)).trans (slotQuad_applySlot_disjoint w hu)

/-- The slots of a round may run all at once: each mixes the words the round started from. -/
theorem Lanes.slotQuad_applySlots (h : Lanes l) (ht : t ∈ l) (w : Vector Word 16) :
    slotQuad t (applySlots l w) = quarterRound (slotQuad t w) := by
  induction l generalizing w with
  | nil => cases ht
  | cons u l ih =>
    obtain ⟨hu, hul, hl⟩ := lanes_cons.1 h
    cases ht with
    | head => exact (slotQuad_applySlots_disjoint hul (applySlot t w)).trans (slotQuad_applySlot w hu)
    | tail _ ht =>
      have hread := slotQuad_applySlot_disjoint w (hul t ht).symm
      exact (ih hl ht (applySlot u w)).trans (congrArg quarterRound hread)

end

/-- Settles O24: both rounds are lanes that cover every index. -/
theorem roundLanesAreIndependent : Obligations.RoundLanesAreIndependent := by
  have hcol : ∀ i, ∃ t ∈ columns, i ∈ t.indices := by decide
  have hdiag : ∀ i, ∃ t ∈ diagonals, i ∈ t.indices := by decide
  exact ⟨fun i => ⟨lanes_columns.existsUnique (hcol i), lanes_diagonals.existsUnique (hdiag i)⟩,
    fun w l hp => lanes_columns.applySlots_perm hp w, fun w l hp => lanes_diagonals.applySlots_perm hp w,
    fun w t ht => lanes_columns.slotQuad_applySlots ht w, fun w t ht => lanes_diagonals.slotQuad_applySlots ht w⟩

/-! ### The micro-steps and the tick that runs them (R87, R165, R166) -/

section
variable {s t : State} {q : BitVec 3} {r : BitVec 4} {sl : Slot}

/-- The tick spc names runs while BUSY = 1 (R166). -/
theorem quarterRoundTick_selected (hr : r < 10#4) (hb : s.busy = true) (hspc : s.spc = r ++ q) :
    quarterRoundTick q sl r s = .next (s.quarterTick sl) := by
  have hlt : s.spc < 80#7 := hspc ▸ (append_lt_eighty_iff q r).2 hr
  rw [quarterRoundTick, (atStep_iff _).2 ⟨hb, hspc⟩, decide_eq_true hlt]
  rfl

theorem atStep_eq_false {n : BitVec 7} (h : s.busy = false ∨ s.spc ≠ n) : s.atStep n = false := by
  rw [Bool.eq_false_iff, Ne, atStep_iff]
  rintro ⟨hb, hspc⟩
  simp [hb, hspc] at h

theorem quarterRoundTick_unselected (h : s.busy = false ∨ s.spc ≠ r ++ q) :
    quarterRoundTick q sl r s = .fault .stepNotSelected := by
  rw [quarterRoundTick, atStep_eq_false h]
  rfl

/-- No step number below 80 names a double-round above 9 (R24). -/
theorem quarterRoundTick_high_round (hr : 10#4 ≤ r) : quarterRoundTick q sl r s = .fault .stepNotSelected := by
  by_cases h : s.spc = r ++ q
  · have hge : ¬ s.spc < 80#7 := by
      rw [h, append_lt_eighty_iff]
      bv_omega
    rw [quarterRoundTick, decide_eq_false hge, Bool.and_false, microStep_off]
  · exact quarterRoundTick_unselected (.inr h)

theorem exec_finalize (hb : s.busy = true) (h80 : s.spc = 80#7) : exec .finalize s = .next s.finishBlock := by
  rw [exec, execFinalize, (atStep_iff 80).2 ⟨hb, h80⟩, microStep_on]

theorem exec_finalize_unselected (h : s.busy = false ∨ s.spc ≠ 80#7) :
    exec .finalize s = .fault .stepNotSelected := by
  rw [exec, execFinalize, atStep_eq_false (n := 80) h, microStep_off]

/-- Everything a tick can do when it answers a next state. -/
theorem sequencerTurn_outcome (h : sequencerTurn s = .next t) :
    (s.busy = false ∧ t = s) ∨
    (s.busy = true ∧ s.spc < 80#7 ∧ t = s.quarterTick (slotAt s.spc.toNat)) ∨
    (s.busy = true ∧ s.spc = 80#7 ∧ t = s.finishBlock) := by
  rcases sequencerTurn_cases h with hidle | ⟨hb, i, hd, -⟩
  · exact .inl hidle
  · rcases decodeSeq_cases hd with ⟨h80, -⟩ | ⟨hlt, -⟩
    · rw [sequencerTurn_finalize hb h80] at h
      cases h; exact .inr (.inr ⟨hb, h80, rfl⟩)
    · rw [sequencerTurn_quarter hb hlt] at h
      cases h; exact .inr (.inl ⟨hb, hlt, rfl⟩)

end

/-- Settles O19: the eight micro-steps are the tick of one slot number each. -/
theorem quarterRoundTicks : Obligations.QuarterRoundTicks := fun _ _ hr hb =>
  ⟨quarterRoundTick_selected hr hb, quarterRoundTick_selected hr hb, quarterRoundTick_selected hr hb,
    quarterRoundTick_selected hr hb, quarterRoundTick_selected hr hb, quarterRoundTick_selected hr hb,
    quarterRoundTick_selected hr hb, quarterRoundTick_selected hr hb⟩

/-- Settles O23: the guard fails on BUSY, on the step number or on the bound of spc. -/
theorem unselectedMicroStepIsStuck : Obligations.UnselectedMicroStepIsStuck := by
  intro r s
  refine ⟨quarterRoundTick_unselected, quarterRoundTick_unselected, quarterRoundTick_unselected,
    quarterRoundTick_unselected, quarterRoundTick_unselected, quarterRoundTick_unselected,
    quarterRoundTick_unselected, quarterRoundTick_unselected, exec_finalize_unselected, fun hr => ?_⟩
  have hstuck : ∀ q sl, quarterRoundTick q sl r s = .fault .stepNotSelected := fun _ _ =>
    quarterRoundTick_high_round hr
  simp only [List.forall_mem_cons]
  exact ⟨hstuck _ _, hstuck _ _, hstuck _ _, hstuck _ _, hstuck _ _, hstuck _ _, hstuck _ _, hstuck _ _, nofun⟩

/-- The two parts of a step number, spc = 8r + q (R87). -/
theorem slot_of_stepNumber (n : BitVec 7) : n.extractLsb' 0 3 = BitVec.ofNat 3 (n.toNat % 8) := by
  apply BitVec.eq_of_toNat_eq
  rw [BitVec.extractLsb'_toNat, BitVec.toNat_ofNat, Nat.shiftRight_zero]
  omega

theorem round_of_stepNumber (n : BitVec 7) : n.extractLsb' 3 4 = BitVec.ofNat 4 (n.toNat / 8) := by
  apply BitVec.eq_of_toNat_eq
  rw [BitVec.extractLsb'_toNat, BitVec.toNat_ofNat, Nat.shiftRight_eq_div_pow]

/-- Settles O22: the turn is the meaning of what spc decodes to. -/
theorem tickRunsStepNamedBySpc : Obligations.TickRunsStepNamedBySpc := by
  refine fun s => ⟨sequencerTurn_idle, fun hb h80 => sequencerTurn_of_decode hb (h80 ▸ rfl), fun hb hle => ?_⟩
  have hlt : s.spc < 80#7 := by bv_omega
  rw [← slot_of_stepNumber, ← round_of_stepNumber]
  exact ⟨sequencerTurn_of_decode hb (decodeSeq_of_lt hlt), _, sequencerTurn_quarter hb hlt, rfl, hb⟩

/-- Settles O57: which case of a tick applies depends on BUSY and spc only, and so do the flags it leaves. -/
theorem controlIsDataIndependent : Obligations.ControlIsDataIndependent := by
  rintro s t s' ⟨hspc, hbusy, hvalid, houtValid, herr⟩ h
  rcases sequencerTurn_outcome h with ⟨hb, rfl⟩ | ⟨hb, hlt, rfl⟩ | ⟨hb, h80, rfl⟩
  · exact ⟨t, sequencerTurn_idle (hbusy ▸ hb), hspc, hbusy, hvalid, houtValid, herr⟩
  · exact ⟨_, sequencerTurn_quarter (hbusy ▸ hb) (hspc ▸ hlt), congrArg (· + 1) hspc, hbusy, hvalid,
      houtValid, herr⟩
  · exact ⟨_, sequencerTurn_finalize (hbusy ▸ hb) (hspc ▸ h80), rfl, rfl, hvalid, rfl, herr⟩

/-! ### NEXT_BLOCK, the eighty ticks and the finalize tick (R160, R164, R170) -/

section
variable {s u : State}

theorem exec_nextBlock (hb : s.busy = false) (hv : s.stateValid = true) :
    exec .nextBlock s = .next (s.startBlock.setErr .ok) := by
  rw [exec, execNextBlock, whileIdle_idle hb, if_pos hv, accept_eq]

theorem counterWraps_or (b : Bool) (lo hi : Word) :
    (b || counterWraps lo hi) = if lo = 0xFFFFFFFF ∧ hi = 0xFFFFFFFF then true else b := by
  split_ifs with h
  · rw [(counterWraps_iff lo hi).2 h, Bool.or_true]
  · rw [Bool.eq_false_iff.2 (mt (counterWraps_iff lo hi).1 h), Bool.or_false]

/-- One more tick after `n`. -/
theorem ticks_succ_of_ticks {n : Nat} (h : ticks n s = .next u) : ticks (n + 1) s = sequencerTurn u := by
  induction n generalizing s with
  | zero =>
    cases h
    exact andThen_next_right (sequencerTurn u)
  | succ n ih =>
    obtain ⟨v, hv, hu⟩ := andThen_eq_next (ticks_succ n s ▸ h)
    rw [ticks_succ, hv, andThen_next, ih hu]

/-- The state `n` quarter-round ticks after the start of a block: they change W and spc only (R166). -/
def State.quarterTicks (s : State) (n : Nat) : State := { s with W := afterTicks n s.W, spc := BitVec.ofNat 7 n }

theorem State.quarterTick_quarterTicks (s : State) (n : Nat) :
    (s.quarterTicks n).quarterTick (slotAt n) = s.quarterTicks (n + 1) := by
  have hspc : BitVec.ofNat 7 (n + 1) = BitVec.ofNat 7 n + 1 := BitVec.ofNat_add n 1
  simp only [quarterTicks, hspc]
  rfl

theorem ticks_from_start (hb : s.busy = true) (h0 : s.spc = 0#7) {n : Nat} (hn : n ≤ 80) :
    ticks n s = .next (s.quarterTicks n) := by
  induction n with
  | zero => rw [ticks_zero, State.quarterTicks, afterTicks_zero, ← h0]
  | succ n ih =>
    have hspc : (s.quarterTicks n).spc.toNat = n := BitVec.toNat_ofNat n 7 ▸ Nat.mod_eq_of_lt (by omega)
    have hlt : (s.quarterTicks n).spc < 80#7 := by rw [BitVec.lt_def, hspc]; exact hn
    rw [ticks_succ_of_ticks (ih (by omega)), sequencerTurn_quarter (s := s.quarterTicks n) hb hlt, hspc,
      State.quarterTick_quarterTicks]

theorem State.quarterTicks_eighty (s : State) : s.quarterTicks 80 = { s with W := permute s.W, spc := 80#7 } := by
  rw [quarterTicks, afterTicks_eighty]

theorem doubleRounds_eq_iterate (n : Nat) (w : Vector Word 16) : doubleRounds n w = doubleRound^[n] w := by
  induction n with
  | zero => rfl
  | succ n ih => rw [Function.iterate_succ_apply', doubleRounds, ih]

/-- The state after a block's 81 ticks: OUT holds the block of S, and the counter of S has moved on (R177, R178). -/
def State.completedBlock (s : State) : State :=
  { s with
    W := permute s.S
    out := blockWords s.S
    S := incrementCounter s.S
    ctrWrap := s.ctrWrap || counterWraps s.S[12] s.S[13]
    spc := 0
    busy := false
    outValid := true
    err := .ok }

/-- Until its last tick a block changes nothing after its acceptance but W and spc. -/
theorem nextBlock_then_ticks (hb : s.busy = false) (hv : s.stateValid = true) {n : Nat} (hn : n ≤ 80) :
    andThen (exec .nextBlock s) (ticks n) = .next ((s.startBlock.setErr .ok).quarterTicks n) := by
  rw [exec_nextBlock hb hv, andThen_next, ticks_from_start rfl rfl hn]

theorem runBlock_eq (hb : s.busy = false) (hv : s.stateValid = true) : runBlock s = .next s.completedBlock := by
  have h80 : ticks 80 (s.startBlock.setErr .ok) = .next ((s.startBlock.setErr .ok).quarterTicks 80) :=
    ticks_from_start rfl rfl (Nat.le_refl 80)
  rw [runBlock, exec_nextBlock hb hv, andThen_next, ticks_succ_of_ticks h80, State.quarterTicks_eighty,
    sequencerTurn_finalize rfl rfl]
  rfl

end

/-- Settles O7: NEXT_BLOCK is the BUSY check and, in a valid state, the acceptance of the block's start. -/
theorem nextBlockStartsBlock : Obligations.NextBlockStartsBlock := by
  obtain ⟨-, -, -, hnext, -⟩ := sampleCodesDecode
  exact fun s => ⟨exec_nextBlock, fun hb => whileIdle_busy hb _, dispatchCommand_of_decode hnext s,
    fun v hb hop hbits => (reservedBitsRejected v s hb).2 (.inr (.inl hop)) hbits⟩

/-- Settles O21: the writes of `finishBlock`, with OUT and CTR_WRAP written out. -/
theorem finalizeTick : Obligations.FinalizeTick := by
  intro s hb h80
  rw [exec_finalize hb h80, ← counterWraps_or]
  rfl

/-- Settles O25: eighty ticks are ten double-rounds. -/
theorem eightyTicksComputePermutation : Obligations.EightyTicksComputePermutation := by
  refine ⟨doubleRounds_eq_iterate 10, fun s hb h0 => ?_⟩
  rw [ticks_from_start hb h0 (Nat.le_refl 80), State.quarterTicks_eighty]

/-- Settles O28: the host's accesses keep the block, which `SameBlock` says register by register. -/
theorem hostCannotDisturbBlock : Obligations.HostCannotDisturbBlock := by
  intro a s hb ha
  obtain ⟨t, ht⟩ := hostAct_total a s
  obtain ⟨same, -⟩ := hostAct_while_busy hb ha ht
  exact ⟨t, ht, same.S, same.W, same.spc, same.out, same.busy.trans hb, same.stateValid, same.outValid, same.qout⟩

/-! ### The keystream bytes (R60, R174) -/

/-- Byte 0x80 + k of the window is byte k mod 4 of the register OUT[k div 4] (R55). -/
theorem outWindow_wordIndex {k : Nat} (hk : k < 64) :
    (BitVec.ofNat 8 (0x80 + k)).extractLsb' 2 6 = regIndex (.out ⟨k / 4, by omega⟩) := by
  apply BitVec.eq_of_toNat_eq
  rw [toNat_wordIndex, regIndex, BitVec.toNat_ofNat, BitVec.toNat_ofNat]
  dsimp only
  omega

theorem outWindow_byteIndex (k : Nat) :
    ((BitVec.ofNat 8 (0x80 + k)).extractLsb' 0 2).toNat = k % 4 := by
  rw [BitVec.extractLsb'_toNat, BitVec.toNat_ofNat, Nat.shiftRight_zero]
  omega

theorem busReadByte_outWindow (s : State) {k : Nat} (hk : k < 64) :
    busReadByte (BitVec.ofNat 8 (0x80 + k)) s = (serialize s.out)[k] := by
  rw [busReadByte, outWindow_wordIndex hk, outWindow_byteIndex k, busRead_regIndex (r := .out _) nofun,
    serialize_getElem]
  rfl

/-- Settles O31: byte 4i + j lies in word i, at place j. -/
theorem keystreamBytesAtOutWindow : Obligations.KeystreamBytesAtOutWindow := by
  refine ⟨fun x i j hi hj => ?_, fun s k hk => busReadByte_outWindow s hk⟩
  have hword : (4 * i + j) / 4 = i := by omega
  have hbyte : (4 * i + j) % 4 = j := by omega
  simp only [serialize_getElem, hword, hbyte, byteOf]

/-- Settles O26: the run is `completedBlock`, before its last tick it is the start of the block but for W and spc, and
OUT reads as its serialization. -/
theorem completedBlockIsChaChaBlock : Obligations.CompletedBlockIsChaChaBlock := by
  intro s hb hv
  refine ⟨?_, fun n hn => ⟨_, nextBlock_then_ticks hb hv hn, rfl, rfl, rfl⟩, s.completedBlock, runBlock_eq hb hv,
    fun k hk => busReadByte_outWindow s.completedBlock hk⟩
  rw [runBlock_eq hb hv, ← counterWraps_or]
  rfl

/-! ### The counter over many blocks (R61, R175, R180) -/

section
variable {m m' : Vector Word 16} {c : BitVec 64}

/-- A matrix is its counter and its other fourteen words. -/
theorem eq_of_counterOf_eq (hc : counterOf m = counterOf m')
    (h : ∀ (i : Nat) (_ : i < 16), i ≠ 12 → i ≠ 13 → m[i] = m'[i]) : m = m' := by
  refine Vector.ext fun i hi => ?_
  by_cases h12 : i = 12
  · subst h12; rw [← counterOf_lo, hc, counterOf_lo]
  · by_cases h13 : i = 13
    · subst h13; rw [← counterOf_hi, hc, counterOf_hi]
    · exact h i hi h12 h13

theorem counterOf_initialMatrix (key : Vector Word 8) (lo hi : Word) (nonce : Vector Word 2) :
    counterOf (initialMatrix key lo hi nonce) = hi ++ lo := rfl

@[simp] theorem counterOf_withCounter (m : Vector Word 16) (c : BitVec 64) : counterOf (withCounter m c) = c := by
  rw [counterOf, withCounter_lo, withCounter_hi]
  exact (BitVec.extractLsb'_append_extractLsb'_eq_extractLsb' rfl).trans BitVec.extractLsb'_eq_self

theorem withCounter_of_counterOf (h : counterOf m = c) : withCounter m c = m :=
  eq_of_counterOf_eq ((counterOf_withCounter m c).trans h.symm) (withCounter_other m c)

theorem incrementCounter_withCounter (m : Vector Word 16) (c : BitVec 64) :
    incrementCounter (withCounter m c) = withCounter m (c + 1) := by
  refine eq_of_counterOf_eq ?_ fun i hi h12 h13 => ?_
  · rw [counterOf_incrementCounter, counterOf_withCounter, counterOf_withCounter]
  · rw [incrementCounter_other _ i hi h12 h13, withCounter_other _ _ i hi h12 h13, withCounter_other _ _ i hi h12 h13]

theorem counterWraps_iff_counterOf (m : Vector Word 16) :
    counterWraps m[12] m[13] = true ↔ counterOf m = 0xFFFFFFFFFFFFFFFF#64 := by
  rw [counterWraps_iff]
  constructor
  · rintro ⟨hlo, hhi⟩
    rw [counterOf, hlo, hhi]
    rfl
  · intro hc
    rw [← counterOf_lo, ← counterOf_hi, hc]
    decide

theorem lowWord_ofNat (n : Nat) : (BitVec.ofNat 64 n).extractLsb' 0 32 = BitVec.ofNat 32 n := by
  apply BitVec.eq_of_toNat_eq
  rw [BitVec.extractLsb'_toNat, BitVec.toNat_ofNat, BitVec.toNat_ofNat, Nat.shiftRight_zero]
  omega

theorem highWord_ofNat (n : Nat) : (BitVec.ofNat 64 n).extractLsb' 32 32 = BitVec.ofNat 32 (n / 2 ^ 32) := by
  apply BitVec.eq_of_toNat_eq
  rw [BitVec.extractLsb'_toNat, BitVec.toNat_ofNat, BitVec.toNat_ofNat, Nat.shiftRight_eq_div_pow]
  omega

end

/-- Settles O29: the finalize tick in terms of the 64-bit counter. -/
theorem counterIncrementIsSixtyFourBit : Obligations.CounterIncrementIsSixtyFourBit := by
  refine fun s hb h80 => ⟨_, exec_finalize hb h80, counterOf_incrementCounter s.S, ?_, incrementCounter_other s.S⟩
  rw [State.finishBlock_ctrWrap, Bool.or_eq_true, counterWraps_iff_counterOf]

/-- `t` is ready for its next block after `n` completed blocks of the matrix `m`: S is `m` with its counter `n`, and OUT
holds the block before (R180). -/
structure AfterBlocks (m : Vector Word 16) (n : Nat) (t : State) : Prop where
  busy : t.busy = false
  stateValid : t.stateValid = true
  matrix : t.S = withCounter m (BitVec.ofNat 64 n)
  out : 0 < n → t.out = blockWords (withCounter m (BitVec.ofNat 64 (n - 1)))

section
variable {m : Vector Word 16} {n : Nat} {s t : State}

theorem afterBlocks_zero (hb : s.busy = false) (hv : s.stateValid = true) (hc : counterOf s.S = 0) :
    AfterBlocks s.S 0 s :=
  ⟨hb, hv, (withCounter_of_counterOf hc).symm, nofun⟩

theorem AfterBlocks.completedBlock (h : AfterBlocks m n t) : AfterBlocks m (n + 1) t.completedBlock where
  busy := rfl
  stateValid := h.stateValid
  matrix := by
    change incrementCounter t.S = _
    rw [h.matrix, incrementCounter_withCounter, BitVec.ofNat_add]
    rfl
  out _ := congrArg blockWords h.matrix

/-- Every block of a run completes, and the next one starts from its counter. -/
theorem AfterBlocks.runBlocks (h : AfterBlocks m 0 s) (n : Nat) :
    ∃ t, Machine.runBlocks n s = .next t ∧ AfterBlocks m n t := by
  induction n with
  | zero => exact ⟨s, rfl, h⟩
  | succ n ih =>
    obtain ⟨t, ht, hafter⟩ := ih
    exact ⟨t.completedBlock, by rw [Machine.runBlocks, ht, andThen_next, runBlock_eq hafter.busy hafter.stateValid],
      hafter.completedBlock⟩

end

/-- Settles O30: INIT builds a matrix of counter 0, and each block adds one to it. -/
theorem counterAfterBlocks : Obligations.CounterAfterBlocks := by
  intro s n hb
  have hinit : exec (.init 32#8 8#8) s = .next ((s.buildMatrix 0 0).setErr .ok) :=
    (initializer_outcomes 32#8 8#8 0 0 s).1 hb rfl rfl
  have hzero : counterOf (s.buildMatrix 0 0).S = 0 := counterOf_initialMatrix s.key 0 0 s.nonce
  obtain ⟨t, ht, hafter⟩ := (afterBlocks_zero (s := (s.buildMatrix 0 0).setErr .ok) hb rfl hzero).runBlocks n
  refine ⟨_, t, hinit, ht, ?_, ?_, hafter.out⟩
  · rw [hafter.matrix, withCounter_lo, lowWord_ofNat]
  · rw [hafter.matrix, withCounter_hi, highWord_ofNat]

end Sys2Proof.Machine

/-! # The exceptions family (60_exceptions): the error code a CMD write leaves, and that a rejection changes nothing else -/

namespace Sys2Proof.Machine

section
variable {s t : State} {v : Word}

/-- No tick writes ERR, not even the last one (R206). -/
theorem sequencerTurn_keeps_err (h : sequencerTurn s = .next t) : t.err = s.err := by
  obtain ⟨-, rfl⟩ | ⟨-, -, rfl⟩ | ⟨-, -, rfl⟩ := sequencerTurn_outcome h
  · rfl
  · exact State.quarterTick_err s _
  · exact State.finishBlock_err s

theorem exec_nextBlock_invalid (hb : s.busy = false) (hv : s.stateValid = false) :
    exec .nextBlock s = .next (s.setErr .notInitialized) := by
  rw [exec, execNextBlock, whileIdle_idle hb, hv, if_neg Bool.false_ne_true, raise_eq]

/-- A word of NOP, NEXT_BLOCK or QR without a reserved bit runs the command of its opcode (R82). -/
theorem dispatchCommand_plain (hop : fieldOp v = 0x0#4 ∨ fieldOp v = 0x3#4 ∨ fieldOp v = 0x4#4)
    (habove : fieldAboveOp v = 0#28) (s : State) : dispatchCommand v s =
      if fieldOp v = 0x0#4 then exec .nop s else if fieldOp v = 0x3#4 then exec .nextBlock s else exec .qr s := by
  obtain ⟨hlegal, hplain⟩ := plain_opcode _ hop
  rw [dispatchCommand_of_decode (decodeCmd_eq_ok_iff.2 ⟨hlegal, (reservedClear_of_plain hplain).2 habove, rfl⟩),
    exec_selectCommand, if_neg (not_or.1 hplain).1, if_neg (not_or.1 hplain).2]

/-- INIT and INIT_CTR report the key's length before the nonce's (R123). -/
theorem dispatchCommand_lengths_err (hb : s.busy = false) (hop : fieldOp v = 0x1#4 ∨ fieldOp v = 0x2#4)
    (hA : fieldRsvA v = 0#4) (hB : fieldRsvB v = 0#8) :
    ∃ t, dispatchCommand v s = .next t ∧
      t.err = if (fieldKlen v).toNat ≠ 32 then .invalidKeyLength
        else if (fieldNlen v).toNat ≠ 8 then .invalidNonceLength
        else .ok := by
  obtain ⟨hklen, hnlen, haccepted⟩ := lengthErrorsOfCommandWord v s hb hop hA hB
  split_ifs with hk hn
  · exact ⟨_, hklen hk, rfl⟩
  · exact ⟨_, hnlen (not_not.1 hk) hn, rfl⟩
  · obtain ⟨t, ht, herr, -⟩ := haccepted (not_not.1 hk) (not_not.1 hn)
    exact ⟨t, ht, herr⟩

/-- Of the commands without lengths only NEXT_BLOCK can be rejected while no block runs, and only for want of an
initialization (R209). -/
theorem dispatchCommand_plain_err (hb : s.busy = false)
    (hop : fieldOp v = 0x0#4 ∨ fieldOp v = 0x3#4 ∨ fieldOp v = 0x4#4) (habove : fieldAboveOp v = 0#28) :
    ∃ t, dispatchCommand v s = .next t ∧
      t.err = if fieldOp v = 0x3#4 ∧ s.stateValid = false then .notInitialized else .ok := by
  rw [dispatchCommand_plain hop habove]
  obtain h | h | h := hop <;> simp only [h]
  · exact ⟨_, whileIdle_idle hb _, rfl⟩
  · cases hv : s.stateValid
    · exact ⟨_, exec_nextBlock_invalid hb hv, rfl⟩
    · exact ⟨_, exec_nextBlock hb hv, rfl⟩
  · exact ⟨_, whileIdle_idle hb _, rfl⟩

/-- The checks that the five commands make on a word that decodes, in the order of R204. -/
theorem dispatchCommand_reservedClear_err (hb : s.busy = false) (hop : ¬ 5 ≤ (fieldOp v).toNat)
    (hclear : reservedClear v = true) :
    ∃ t, dispatchCommand v s = .next t ∧
      t.err = if (fieldOp v = 0x1#4 ∨ fieldOp v = 0x2#4) ∧ (fieldKlen v).toNat ≠ 32 then .invalidKeyLength
        else if (fieldOp v = 0x1#4 ∨ fieldOp v = 0x2#4) ∧ (fieldNlen v).toNat ≠ 8 then .invalidNonceLength
        else if fieldOp v = 0x3#4 ∧ s.stateValid = false then .notInitialized
        else .ok := by
  by_cases hlen : fieldOp v = 0x1#4 ∨ fieldOp v = 0x2#4
  · obtain ⟨hB, hA⟩ := (reservedClear_of_lengths hlen).1 hclear
    have hnext : ¬ fieldOp v = 0x3#4 := fun h => by simp [h] at hlen
    simpa only [hlen, hnext, true_and, false_and, if_false] using dispatchCommand_lengths_err hb hlen hA hB
  · have habove := (reservedClear_of_plain hlen).1 hclear
    simpa only [hlen, false_and, if_false] using
      dispatchCommand_plain_err hb (opcode_plain_of_legal _ hop hlen) habove

end

/-! ### The statements -/

/-- Settles O10: BUSY, then the decoder's two reasons, then the checks of the command the word decodes to. -/
theorem reportedErrorIsFirstInPriority : Obligations.ReportedErrorIsFirstInPriority := by
  intro v s
  by_cases hb : s.busy = true
  · rw [if_pos hb]
    exact ⟨_, dispatchCommand_busy v hb, rfl⟩
  rw [if_neg hb]
  have hidle : s.busy = false := Bool.eq_false_iff.2 hb
  by_cases hop : 5 ≤ (v.extractLsb' 0 4).toNat
  · rw [if_pos hop]
    exact ⟨_, (illegalOpcodeRejected v s hop).1 hidle, rfl⟩
  rw [if_neg hop]
  split
  case isTrue hset =>
    obtain ⟨hlengths, hplain⟩ := reservedBitsRejected v s hidle
    exact ⟨_, hset.elim (fun h => hlengths h.1 h.2) (fun h => hplain h.1 h.2), rfl⟩
  case isFalse hzero =>
    obtain ⟨hlengths, hplain⟩ := not_or.1 hzero
    obtain ⟨t, ht, herr⟩ := dispatchCommand_reservedClear_err hidle hop (reservedClear_of_checks hop hlengths hplain)
    refine ⟨t, ht, ?_⟩
    rw [herr]
    simp only [apply_ite errBits]
    rfl

/-- Settles O13: the BUSY check comes before every other, and ERR is no register of the sequencer. -/
theorem busyRejectsEveryCommand : Obligations.BusyRejectsEveryCommand := fun _ hb =>
  ⟨fun v => dispatchCommand_busy v hb, fun _ => sequencerTurn_keeps_err⟩

/-- Settles O14: a command clears ERR, or it is rejected and writes ERR only. -/
theorem rejectionWritesErrOnly : Obligations.RejectionWritesErrOnly := by
  intro v s
  obtain ⟨t, ht, hok | hrejected⟩ := dispatchCommand_err_ok_or_setErr v s
  · exact ⟨t, ht, fun hne => absurd hok hne⟩
  · exact ⟨t, ht, fun _ => hrejected⟩

/-- Settles O8: NEXT_BLOCK checks STATE_VALID after BUSY, and before any write. -/
theorem nextBlockNeedsValidState : Obligations.NextBlockNeedsValidState := by
  intro s hb hv
  obtain ⟨-, -, -, hnext, -⟩ := sampleCodesDecode
  have hrun := exec_nextBlock_invalid hb hv
  exact ⟨hrun, (dispatchCommand_of_decode hnext s).trans hrun⟩

/-- Settles O15: the write finds BUSY = 1 before the tick, and after it the cleared BUSY of the finished block. -/
theorem commandAndFinalizeInEitherOrder : Obligations.CommandAndFinalizeInEitherOrder := by
  intro s hb h80
  refine ⟨fun v => ⟨_, dispatchCommand_busy v hb, rfl⟩, _, sequencerTurn_finalize hb h80, rfl, fun v => ?_⟩
  have hidle : s.finishBlock.busy = false := State.finishBlock_busy s
  cases hd : decodeCmd v with
  | ok i => exact dispatchCommand_of_decode hd _
  | error why =>
    cases why with
    | illegalOpcode => exact dispatchCommand_of_reject hd hidle
    | reservedBits => exact dispatchCommand_of_reject hd hidle

end Sys2Proof.Machine

/-! # The reset family (70_reset_and_hazards): what the CORE held before a reset does not outlive it -/

namespace Sys2Proof.Machine

section
variable {s t : State}

theorem hostAct_reset (s : State) : hostAct .reset s = .next s.resetRegisters := rfl

theorem eq_resetRegisters_of_hostAct_reset (h : hostAct .reset s = .next t) : t = s.resetRegisters := by
  rw [hostAct_reset] at h
  cases h
  rfl

/-- The bus reads the same registers after every reset (R230); the host's own fields are not in the window. -/
theorem sameWindow_resetRegisters (s s' : State) : SameWindow s.resetRegisters s'.resetRegisters :=
  ⟨rfl, rfl, rfl, rfl, rfl, rfl, rfl, rfl, rfl, rfl, rfl, rfl, rfl, rfl⟩

end

/-- Settles O39: after two resets KEY, S, W and OUT hold their one reset value, and the two windows read the same
(`keyMaterialIsNotReadable`). -/
theorem resetAbandonsBlockAndKeys : Obligations.ResetAbandonsBlockAndKeys := by
  refine fun s => ⟨hostAct_reset s, fun s' t t' ht ht' => ?_⟩
  obtain rfl := eq_resetRegisters_of_hostAct_reset ht
  obtain rfl := eq_resetRegisters_of_hostAct_reset ht'
  exact ⟨rfl, rfl, rfl, rfl, keyMaterialIsNotReadable _ _ (sameWindow_resetRegisters s s')⟩

end Sys2Proof.Machine
